-- ==== Sys2Proof/Word.lean ====
section
/-! DEFINITION. The widths of the HTG12N0 (R5): nibbles, ROM bytes, program addresses. -/

namespace Sys2Proof

/-- 4 bits: the accumulator, a working register, a data-memory location (R5). -/
abbrev Nibble := BitVec 4

/-- 8 bits: a ROM byte, a data address, the timer/counter (R5). -/
abbrev Byte := BitVec 8

/-- 12 bits: the program counter, an address within a ROM bank (R24). -/
abbrev CodeAddr := BitVec 12

/-- 11 bits: the address field of a conditional branch (R97). -/
abbrev HalfAddr := BitVec 11

/-- Sparse data by key. The canonical form (`Memory.wf`) lists keys strictly rising; a key that is
not listed has no value in the list. -/
abbrev Memory (α : Type) := List (Nat × α)

end Sys2Proof
end

