-- ==== Sys2Proof/Config.lean ====
section
/-! DEFINITION. What an implementation fixes (mask options and open parameters, R4, R6) and the free
values: constants without a body for what the spec leaves open. -/

namespace Sys2Proof

/-- The clock of the 8-bit timer (R4 `TIMER_SRC`): the TMCLK pin, or the system clock over `2^n`. -/
inductive TimerSrc where
  | external
  | internal (n : Fin 14)
  deriving DecidableEq, Repr

/-- LCD bias current (R4 `LCD_BIAS`): 6, 15 or 60 µA; no rule depends on it. -/
inductive LcdBias where
  | microAmp6 | microAmp15 | microAmp60
  deriving DecidableEq, Repr

/-- Which nibble of `XXH` the first byte of `MOV R1R0,XXH` and `MOV R3R2,XXH` carries
(R95 `PAIR_IMM_FIRST_NIBBLE`). -/
inductive NibbleOrder where
  | low | high
  deriving DecidableEq, Repr

/-- Whether an externally clocked timer counts in HALT (R289 `TIMER_EXT_IN_HALT`). -/
inductive HaltCounting where
  | counts | stops
  deriving DecidableEq, Repr

/-- The mask options of R4 and the open parameters of R6, constant for a run. The bits of the two
7-bit masks are PS0..PS3 (bits 0..3) and PM0..PM2 (bits 4..6); those of `openDrain` are PA0..PA3
(bits 0..3), PC2 (bit 4) and PC3 (bit 5). -/
structure Options where
  /-- `PULLHIGH`: the pin has an internal pull-high resistor. -/
  pullHigh : BitVec 7
  /-- `WAKE_EN`: a high-to-low transition of the pin ends HALT. -/
  wakeEn : BitVec 7
  /-- `OUT_TYPE`: 1 for an NMOS open drain, 0 for CMOS. -/
  openDrain : BitVec 6
  /-- `TIMER_SRC`. -/
  timerSrc : TimerSrc
  /-- `SOUND_DIV`: the sound clock is the system clock over `2^m`. -/
  soundDiv : Fin 6
  /-- `RTC_DIV`: the RTC output frequency is `256 / 2^n` Hz. -/
  rtcDiv : Fin 8
  /-- `LCD_BIAS`. -/
  lcdBias : LcdBias
  /-- `TMCLK_PULLHIGH`. -/
  tmclkPullHigh : Bool
  /-- `PAIR_IMM_FIRST_NIBBLE`, open (D3). -/
  pairImmFirst : NibbleOrder
  /-- `PB_WRITER`, open (D11): whether an event may write the ROM bank latch. -/
  pbWriter : Bool
  /-- `TIMER_EXT_IN_HALT`, open (D24). -/
  timerExtInHalt : HaltCounting
  /-- `LCD_ON_LEVEL`, open (D27): the value of `PORTC[1]` that switches the display on. -/
  lcdOnLevel : Bool
  deriving DecidableEq, Repr

/-- The five working registers' contents (R21). -/
structure Regs where
  r0 : Nibble
  r1 : Nibble
  r2 : Nibble
  r3 : Nibble
  r4 : Nibble
  deriving DecidableEq, Repr, Inhabited

/-- A value for every register the reset table omits (R301, "unspecified"). -/
structure Unspecified where
  acc : Nibble
  regs : Regs
  rtcf : Bool
  stackPc : CodeAddr
  stackCf : Bool
  tmr : Byte
  portc0 : Bool
  sndSel : Nibble
  deriving DecidableEq, Repr, Inhabited

/-- The values of everything unspecified that `State.reset` names: zero. DESIGN CHOICE, unsafe
(log 1, log 2). -/
def Unspecified.zero : Unspecified :=
  { acc := 0, regs := { r0 := 0, r1 := 0, r2 := 0, r3 := 0, r4 := 0 }, rtcf := false, stackPc := 0,
    stackCf := false, tmr := 0, portc0 := false, sndSel := 0 }

/-- The options `State.reset` names. DESIGN CHOICE, unsafe (log 6, 8, 9, 10); `pairImmFirst := low`
is PRESUMED (log 7, R95). Every statement about all states holds for every other choice. -/
def Options.suggested : Options :=
  { pullHigh := 0x7F#7, wakeEn := 0x7F#7, openDrain := 0#6, timerSrc := .internal 0, soundDiv := 0,
    rtcDiv := 0, lcdBias := .microAmp6, tmclkPullHigh := false, pairImmFirst := .low,
    pbWriter := false, timerExtInHalt := .stops, lcdOnLevel := true }

namespace Config

/-- Free value: bit 3 of ACC after `IN A,PM` (R186, `any1`), at the n-th draw. Safe (log 16). -/
opaque freePmBit3 : Nat → BitVec 1

/-- Free value: the level that undriven pin i without pull-high shows (R186), at the n-th draw.
Safe (log 17). -/
opaque freePinLevel : Nat → Nat → Bool

/-- Free value: what is read from the timer while it counts an external clock (R228), at the n-th
draw. Safe (log 18). -/
opaque freeTimerSample : Nat → Byte

/-- Free value: what a data-memory cell holds that nothing has written since reset (R81), by reset
epoch and cell number. Safe (log 4). -/
opaque freeRam : Nat → Nat → Nibble

/-- Parameter: the mask ROM's contents (R4 `ROM`, R316) by 14-bit address, where the state lists no
byte. Safe (log 5). -/
opaque romByte : Nat → Byte

/-- Free value: everything the reset table omits, after the n-th RES pulse of a run (R301, R302).
Safe (log 27). -/
opaque unspecified : Nat → Unspecified

end Config

end Sys2Proof
end

