-- ==== Sys2Proof/Syntax.lean ====
section
/-! DEFINITION. The instruction set: one constructor for each row of the opcode table (R91, R103). -/

namespace Sys2Proof

/-- A working register number, n = 0..4 (R21, R98). -/
inductive Reg where
  | r0 | r1 | r2 | r3 | r4
  deriving DecidableEq, Repr

/-- The instructions, in the table's order. Operands have the exact width of their field (R91), so
every value of this type is an instruction the machine has; `d1`, `d2` are the nibbles of the two
bytes of a pair immediate as they stand in the code (R95). -/
inductive Instr where
  /-- `RR A`, R178. -/
  | rrA
  /-- `RL A`, R176. -/
  | rlA
  /-- `RRC A`, R179. -/
  | rrcA
  /-- `RLC A`, R177. -/
  | rlcA
  /-- `MOV A,[R1R0]`, R163. -/
  | movAMem10
  /-- `MOV [R1R0],A`, R165. -/
  | movMem10A
  /-- `MOV A,[R3R2]`, R164. -/
  | movAMem32
  /-- `MOV [R3R2],A`, R166. -/
  | movMem32A
  /-- `ADC A,[R1R0]`, R122. -/
  | adcAMem
  /-- `ADD A,[R1R0]`, R121. -/
  | addAMem
  /-- `SBC A,[R1R0]`, R124. -/
  | sbcAMem
  /-- `SUB A,[R1R0]`, R123. -/
  | subAMem
  /-- `INC [R1R0]`, R148. -/
  | incMem10
  /-- `DEC [R1R0]`, R152. -/
  | decMem10
  /-- `INC [R3R2]`, R149. -/
  | incMem32
  /-- `DEC [R3R2]`, R153. -/
  | decMem32
  /-- `INC R0`, R147. -/
  | incR0
  /-- `DEC R0`, R151. -/
  | decR0
  /-- `INC R1`, R147. -/
  | incR1
  /-- `DEC R1`, R151. -/
  | decR1
  /-- `INC R2`, R147. -/
  | incR2
  /-- `DEC R2`, R151. -/
  | decR2
  /-- `INC R3`, R147. -/
  | incR3
  /-- `DEC R3`, R151. -/
  | decR3
  /-- `INC R4`, R147. -/
  | incR4
  /-- `DEC R4`, R151. -/
  | decR4
  /-- `AND A,[R1R0]`, R131. -/
  | andAMem
  /-- `XOR A,[R1R0]`, R133. -/
  | xorAMem
  /-- `OR A,[R1R0]`, R132. -/
  | orAMem
  /-- `AND [R1R0],A`, R134. -/
  | andMemA
  /-- `XOR [R1R0],A`, R136. -/
  | xorMemA
  /-- `OR [R1R0],A`, R135. -/
  | orMemA
  /-- `MOV R0,A`, R162. -/
  | movR0A
  /-- `MOV A,R0`, R161. -/
  | movAR0
  /-- `MOV R1,A`, R162. -/
  | movR1A
  /-- `MOV A,R1`, R161. -/
  | movAR1
  /-- `MOV R2,A`, R162. -/
  | movR2A
  /-- `MOV A,R2`, R161. -/
  | movAR2
  /-- `MOV R3,A`, R162. -/
  | movR3A
  /-- `MOV A,R3`, R161. -/
  | movAR3
  /-- `MOV R4,A`, R162. -/
  | movR4A
  /-- `MOV A,R4`, R161. -/
  | movAR4
  /-- `CLC`, R214. -/
  | clc
  /-- `STC`, R215. -/
  | stc
  /-- `EI`, R216. -/
  | ei
  /-- `DI`, R217. -/
  | di
  /-- `RET`, R212. -/
  | ret
  /-- `RETI`, R213. -/
  | reti
  /-- `OUT PA,A`, R188. -/
  | outPAA
  /-- `INC A`, R146. -/
  | incA
  /-- `IN A,PM`, R186. -/
  | inAPM
  /-- `IN A,PS`, R187. -/
  | inAPS
  /-- `OUT PC,A`, R189. -/
  | outPCA
  /-- `DAA`, R127. -/
  | daa
  /-- `HALT`, R251. -/
  | halt
  /-- `TIMER ON`, R226. -/
  | timerOn
  /-- `TIMER OFF`, R227. -/
  | timerOff
  /-- `MOV A,TMRL`, R228. -/
  | movATmrl
  /-- `MOV A,TMRH`, R229. -/
  | movATmrh
  /-- `MOV TMRL,A`, R230. -/
  | movTmrlA
  /-- `MOV TMRH,A`, R231. -/
  | movTmrhA
  /-- `NOP`, R218. -/
  | nop
  /-- `DEC A`, R150. -/
  | decA
  /-- `ADD A,XH`, R125. -/
  | addAImm (x : Nibble)
  /-- `SUB A,XH`, R126. -/
  | subAImm (x : Nibble)
  /-- `AND A,XH`, R137. -/
  | andAImm (x : Nibble)
  /-- `XOR A,XH`, R139. -/
  | xorAImm (x : Nibble)
  /-- `OR A,XH`, R138. -/
  | orAImm (x : Nibble)
  /-- `SOUND n`, R246. -/
  | soundN (n : Nibble)
  /-- `MOV R4,XH`, R170. -/
  | movR4Imm (x : Nibble)
  /-- `TIMER XXH`, R225. -/
  | timerImm (xx : Byte)
  /-- `SOUND ONE`, R248. -/
  | soundOne
  /-- `SOUND LOOP`, R249. -/
  | soundLoop
  /-- `SOUND OFF`, R250. -/
  | soundOff
  /-- `SOUND A`, R247. -/
  | soundA
  /-- `READ R4A`, R234. -/
  | readR4A
  /-- `READF R4A`, R236. -/
  | readfR4A
  /-- `READ MR0A`, R235. -/
  | readMR0A
  /-- `READF MR0A`, R237. -/
  | readfMR0A
  /-- `MOV R1R0,XXH`, R168. -/
  | movR1R0Imm (d1 : Nibble) (d2 : Nibble)
  /-- `MOV R3R2,XXH`, R169. -/
  | movR3R2Imm (d1 : Nibble) (d2 : Nibble)
  /-- `MOV A,XH`, R167. -/
  | movAImm (x : Nibble)
  /-- `JA0 address`, R201. -/
  | ja0 (addr : HalfAddr)
  /-- `JA1 address`, R201. -/
  | ja1 (addr : HalfAddr)
  /-- `JA2 address`, R201. -/
  | ja2 (addr : HalfAddr)
  /-- `JA3 address`, R201. -/
  | ja3 (addr : HalfAddr)
  /-- `JNZ R0,address`, R204. -/
  | jnzR0 (addr : HalfAddr)
  /-- `JNZ R1,address`, R204. -/
  | jnzR1 (addr : HalfAddr)
  /-- `JZ A,address`, R202. -/
  | jzA (addr : HalfAddr)
  /-- `JNZ A,address`, R203. -/
  | jnzA (addr : HalfAddr)
  /-- `JC address`, R198. -/
  | jc (addr : HalfAddr)
  /-- `JNC address`, R199. -/
  | jnc (addr : HalfAddr)
  /-- `JTMR address`, R200. -/
  | jtmr (addr : HalfAddr)
  /-- `JNZ R4,address`, R204. -/
  | jnzR4 (addr : HalfAddr)
  /-- `JMP address`, R197. -/
  | jmp (addr : CodeAddr)
  /-- `CALL address`, R211. -/
  | call (addr : CodeAddr)
  deriving DecidableEq, Repr

end Sys2Proof
end

