-- ==== Sys2Proof/WellFormed.lean ====
section
/-! DEFINITION. The checks that types do not carry. An `Instr` needs none: its operands have the exact
width of their encoding fields (R91), so every term of the type is an instruction of the machine. What
can be ill-formed is a choice of mask options (R4), a pair of code bytes (R104, R105), and a source
line's branch target (R111). -/

namespace Sys2Proof

/-- R4, Pad Description note 3: `TMCLK_PULLHIGH` must be false when `TIMER_SRC` is internal. -/
def Options.wellFormed (o : Options) : Bool :=
  match o.timerSrc with
  | .external => true
  | .internal _ => !o.tmclkPullHigh

/-- R104: the first byte is assigned to an instruction. -/
def firstByteAssigned (b1 : Byte) : Bool := b1 != 0x35#8

/-- R105 (b): 37H is followed by 3EH. -/
def haltBytesMatch (b1 b2 : Byte) : Bool := b1 != 0x37#8 || b2 == 0x3E#8

/-- R105 (a): the second byte of `F2I` and `F2P` (first bytes 40H..46H and 50H..6FH) has a zero high
nibble. -/
def immediateByteMatches (b1 b2 : Byte) : Bool :=
  !((0x40 ≤ b1.toNat && b1.toNat ≤ 0x46) || (0x50 ≤ b1.toNat && b1.toNat ≤ 0x6F)) || b2.toNat < 0x10

/-- R104, R105: the two bytes at the program counter begin with an instruction. -/
def codeWellFormed (b1 b2 : Byte) : Bool :=
  firstByteAssigned b1 && haltBytesMatch b1 b2 && immediateByteMatches b1 b2

/-- R111, R313: a conditional branch at `src` can be assembled for `target` only if `target` lies in
the 2K half of the byte after the branch. -/
def branchReaches (src target : CodeAddr) : Bool :=
  target.getLsbD 11 == (src + 2#12).getLsbD 11

end Sys2Proof
end

