-- ==== Sys2Proof/Decode.lean ====
section
/-! DEFINITION. The decoder (R107), total on any bytes and rejecting by name; the encoder (R111); how
the opcode table's numbers are laid out as bytes. Decoding depends on no state (R108). -/

namespace Sys2Proof

/-- Why bytes are no instruction. -/
inductive DecodeError where
  /-- The first byte is 35H (R104). -/
  | unassignedOpcode
  /-- A two-byte form whose constrained second byte does not match (R105). -/
  | badSecondByte
  /-- The bytes end inside an instruction; never met by a fetch, which always supplies two. -/
  | truncated
  deriving DecidableEq, Repr

/-- R92: the first byte alone says that an instruction has two bytes. -/
def isTwoByte (b1 : Byte) : Bool :=
  b1 == 0x37#8 || (0x40 ≤ b1.toNat && b1.toNat ≤ 0x47) || (0x50 ≤ b1.toNat && b1.toNat ≤ 0x6F) ||
    0x80 ≤ b1.toNat

/-- First bytes 00H..0FH of the map of R103. -/
def oneByteMap0 : List (Nat × Instr) :=
  [(0x00, .rrA), (0x01, .rlA), (0x02, .rrcA), (0x03, .rlcA),
   (0x04, .movAMem10), (0x05, .movMem10A), (0x06, .movAMem32), (0x07, .movMem32A),
   (0x08, .adcAMem), (0x09, .addAMem), (0x0A, .sbcAMem), (0x0B, .subAMem),
   (0x0C, .incMem10), (0x0D, .decMem10), (0x0E, .incMem32), (0x0F, .decMem32)]

/-- First bytes 10H..1FH of the map of R103. -/
def oneByteMap1 : List (Nat × Instr) :=
  [(0x10, .incR0), (0x11, .decR0), (0x12, .incR1), (0x13, .decR1),
   (0x14, .incR2), (0x15, .decR2), (0x16, .incR3), (0x17, .decR3),
   (0x18, .incR4), (0x19, .decR4), (0x1A, .andAMem), (0x1B, .xorAMem),
   (0x1C, .orAMem), (0x1D, .andMemA), (0x1E, .xorMemA), (0x1F, .orMemA)]

/-- First bytes 20H..2FH of the map of R103. -/
def oneByteMap2 : List (Nat × Instr) :=
  [(0x20, .movR0A), (0x21, .movAR0), (0x22, .movR1A), (0x23, .movAR1),
   (0x24, .movR2A), (0x25, .movAR2), (0x26, .movR3A), (0x27, .movAR3),
   (0x28, .movR4A), (0x29, .movAR4), (0x2A, .clc), (0x2B, .stc),
   (0x2C, .ei), (0x2D, .di), (0x2E, .ret), (0x2F, .reti)]

/-- First bytes 30H..3FH of the map of R103. -/
def oneByteMap3 : List (Nat × Instr) :=
  [(0x30, .outPAA), (0x31, .incA), (0x32, .inAPM), (0x33, .inAPS),
   (0x34, .outPCA), (0x36, .daa), (0x38, .timerOn), (0x39, .timerOff),
   (0x3A, .movATmrl), (0x3B, .movATmrh), (0x3C, .movTmrlA), (0x3D, .movTmrhA),
   (0x3E, .nop), (0x3F, .decA)]

/-- First bytes 40H..4FH of the map of R103. -/
def oneByteMap4 : List (Nat × Instr) :=
  [(0x48, .soundOne), (0x49, .soundLoop), (0x4A, .soundOff), (0x4B, .soundA),
   (0x4C, .readR4A), (0x4D, .readfR4A), (0x4E, .readMR0A), (0x4F, .readfMR0A)]

/-- The one-byte instructions without an operand field, from the opcode map of R103. -/
def oneByteMap : List (Nat × Instr) :=
  oneByteMap0 ++ oneByteMap1 ++ oneByteMap2 ++ oneByteMap3 ++ oneByteMap4

/-- One-byte instructions (R103): the map, and `MOV A,XH` at 70H..7FH. -/
def decodeOne (b1 : Byte) : Except DecodeError Instr :=
  if b1.extractLsb' 4 4 = 0x7#4 then .ok (.movAImm (b1.extractLsb' 0 4))
  else
    match oneByteMap.lookup b1.toNat with
    | some i => .ok i
    | none => .error .unassignedOpcode

/-- The forms `F2I`, first bytes 40H..46H, by the low nibble of the first byte (R103). -/
def immForm (op : Nibble) (x : Nibble) : Except DecodeError Instr :=
  match op.toNat with
  | 0 => .ok (.addAImm x)
  | 1 => .ok (.subAImm x)
  | 2 => .ok (.andAImm x)
  | 3 => .ok (.xorAImm x)
  | 4 => .ok (.orAImm x)
  | 5 => .ok (.soundN x)
  | 6 => .ok (.movR4Imm x)
  | _ => .error .badSecondByte

/-- Conditional branches (R205), by the five-bit opcode `byte1[7:3]`. -/
def condForm (c : BitVec 5) (a : HalfAddr) : Except DecodeError Instr :=
  match c.toNat with
  | 0b10000 => .ok (.ja0 a)
  | 0b10001 => .ok (.ja1 a)
  | 0b10010 => .ok (.ja2 a)
  | 0b10011 => .ok (.ja3 a)
  | 0b10100 => .ok (.jnzR0 a)
  | 0b10101 => .ok (.jnzR1 a)
  | 0b10110 => .ok (.jzA a)
  | 0b10111 => .ok (.jnzA a)
  | 0b11000 => .ok (.jc a)
  | 0b11001 => .ok (.jnc a)
  | 0b11010 => .ok (.jtmr a)
  | 0b11011 => .ok (.jnzR4 a)
  | _ => .error .unassignedOpcode

/-- Two-byte instructions (R107), by the high nibble of the first byte. -/
def decodeTwo (b1 b2 : Byte) : Except DecodeError Instr :=
  match (b1.extractLsb' 4 4).toNat with
  | 0x3 => if b2 = 0x3E#8 then .ok .halt else .error .badSecondByte
  | 0x4 =>
    if b1 = 0x47#8 then .ok (.timerImm b2)
    else if b2.extractLsb' 4 4 = 0#4 then immForm (b1.extractLsb' 0 4) (b2.extractLsb' 0 4)
    else .error .badSecondByte
  | 0x5 =>
    if b2.extractLsb' 4 4 = 0#4 then .ok (.movR1R0Imm (b1.extractLsb' 0 4) (b2.extractLsb' 0 4))
    else .error .badSecondByte
  | 0x6 =>
    if b2.extractLsb' 4 4 = 0#4 then .ok (.movR3R2Imm (b1.extractLsb' 0 4) (b2.extractLsb' 0 4))
    else .error .badSecondByte
  | 0xE => .ok (.jmp (b1.extractLsb' 0 4 ++ b2))
  | 0xF => .ok (.call (b1.extractLsb' 0 4 ++ b2))
  | _ => condForm (b1.extractLsb' 3 5) (b1.extractLsb' 0 3 ++ b2)

/-- R107: the instruction at the head of a list of bytes, with the bytes after it. -/
def decode : List Byte → Except DecodeError (Instr × List Byte)
  | [] => .error .truncated
  | b1 :: rest =>
    if isTwoByte b1 then
      match rest with
      | [] => .error .truncated
      | b2 :: rest2 =>
        match decodeTwo b1 b2 with
        | .ok i => .ok (i, rest2)
        | .error e => .error e
    else
      match decodeOne b1 with
      | .ok i => .ok (i, rest)
      | .error e => .error e

/-- The two bytes of a conditional branch with five-bit opcode `c` (R97, R111). -/
def encodeCond (c : BitVec 5) (a : HalfAddr) : List Byte :=
  [c ++ a.extractLsb' 8 3, a.extractLsb' 0 8]

/-- R91, R103, R111: the bytes of an instruction, the first at the lower address. -/
def encode : Instr → List Byte
  | .rrA => [0x00#8]
  | .rlA => [0x01#8]
  | .rrcA => [0x02#8]
  | .rlcA => [0x03#8]
  | .movAMem10 => [0x04#8]
  | .movMem10A => [0x05#8]
  | .movAMem32 => [0x06#8]
  | .movMem32A => [0x07#8]
  | .adcAMem => [0x08#8]
  | .addAMem => [0x09#8]
  | .sbcAMem => [0x0A#8]
  | .subAMem => [0x0B#8]
  | .incMem10 => [0x0C#8]
  | .decMem10 => [0x0D#8]
  | .incMem32 => [0x0E#8]
  | .decMem32 => [0x0F#8]
  | .incR0 => [0x10#8]
  | .decR0 => [0x11#8]
  | .incR1 => [0x12#8]
  | .decR1 => [0x13#8]
  | .incR2 => [0x14#8]
  | .decR2 => [0x15#8]
  | .incR3 => [0x16#8]
  | .decR3 => [0x17#8]
  | .incR4 => [0x18#8]
  | .decR4 => [0x19#8]
  | .andAMem => [0x1A#8]
  | .xorAMem => [0x1B#8]
  | .orAMem => [0x1C#8]
  | .andMemA => [0x1D#8]
  | .xorMemA => [0x1E#8]
  | .orMemA => [0x1F#8]
  | .movR0A => [0x20#8]
  | .movAR0 => [0x21#8]
  | .movR1A => [0x22#8]
  | .movAR1 => [0x23#8]
  | .movR2A => [0x24#8]
  | .movAR2 => [0x25#8]
  | .movR3A => [0x26#8]
  | .movAR3 => [0x27#8]
  | .movR4A => [0x28#8]
  | .movAR4 => [0x29#8]
  | .clc => [0x2A#8]
  | .stc => [0x2B#8]
  | .ei => [0x2C#8]
  | .di => [0x2D#8]
  | .ret => [0x2E#8]
  | .reti => [0x2F#8]
  | .outPAA => [0x30#8]
  | .incA => [0x31#8]
  | .inAPM => [0x32#8]
  | .inAPS => [0x33#8]
  | .outPCA => [0x34#8]
  | .daa => [0x36#8]
  | .halt => [0x37#8, 0x3E#8]
  | .timerOn => [0x38#8]
  | .timerOff => [0x39#8]
  | .movATmrl => [0x3A#8]
  | .movATmrh => [0x3B#8]
  | .movTmrlA => [0x3C#8]
  | .movTmrhA => [0x3D#8]
  | .nop => [0x3E#8]
  | .decA => [0x3F#8]
  | .addAImm x => [0x40#8, 0x0#4 ++ x]
  | .subAImm x => [0x41#8, 0x0#4 ++ x]
  | .andAImm x => [0x42#8, 0x0#4 ++ x]
  | .xorAImm x => [0x43#8, 0x0#4 ++ x]
  | .orAImm x => [0x44#8, 0x0#4 ++ x]
  | .soundN n => [0x45#8, 0x0#4 ++ n]
  | .movR4Imm x => [0x46#8, 0x0#4 ++ x]
  | .timerImm xx => [0x47#8, xx]
  | .soundOne => [0x48#8]
  | .soundLoop => [0x49#8]
  | .soundOff => [0x4A#8]
  | .soundA => [0x4B#8]
  | .readR4A => [0x4C#8]
  | .readfR4A => [0x4D#8]
  | .readMR0A => [0x4E#8]
  | .readfMR0A => [0x4F#8]
  | .movR1R0Imm d1 d2 => [0x5#4 ++ d1, 0x0#4 ++ d2]
  | .movR3R2Imm d1 d2 => [0x6#4 ++ d1, 0x0#4 ++ d2]
  | .movAImm x => [0x7#4 ++ x]
  | .ja0 addr => encodeCond 0b10000#5 addr
  | .ja1 addr => encodeCond 0b10001#5 addr
  | .ja2 addr => encodeCond 0b10010#5 addr
  | .ja3 addr => encodeCond 0b10011#5 addr
  | .jnzR0 addr => encodeCond 0b10100#5 addr
  | .jnzR1 addr => encodeCond 0b10101#5 addr
  | .jzA addr => encodeCond 0b10110#5 addr
  | .jnzA addr => encodeCond 0b10111#5 addr
  | .jc addr => encodeCond 0b11000#5 addr
  | .jnc addr => encodeCond 0b11001#5 addr
  | .jtmr addr => encodeCond 0b11010#5 addr
  | .jnzR4 addr => encodeCond 0b11011#5 addr
  | .jmp addr => [0xE#4 ++ addr.extractLsb' 8 4, addr.extractLsb' 0 8]
  | .call addr => [0xF#4 ++ addr.extractLsb' 8 4, addr.extractLsb' 0 8]

/-- R90: the length of an instruction in bytes. -/
def Instr.length (i : Instr) : Nat := (encode i).length

/-- The bytes of an opcode-table number: a row of one byte is the byte; a row of two bytes is the
16-bit word `byte1 : byte2` with the first byte in bits 15..8 (R90, and the table's `match`), stored
first byte first. The second byte of a one-byte row is 0 (log 31). -/
def tableBytes (nbits w : Nat) : Byte × Byte :=
  if nbits ≤ 8 then (BitVec.ofNat 8 w, 0#8) else (BitVec.ofNat 8 (w / 256), BitVec.ofNat 8 w)

/-- The instruction the decoder reads from an opcode-table number of `nbits` bits. -/
def decodeTableWord (nbits w : Nat) : Option Instr :=
  match decode [(tableBytes nbits w).1, (tableBytes nbits w).2] with
  | .ok (i, _) => some i
  | .error _ => none

end Sys2Proof
end

