-- ==== Sys2Proof/Machine/State.lean ====
section
/-! DEFINITION. The machine's state (R20-R47), its faults and refusals, and the state right after
reset (R301). -/

namespace Sys2Proof.Machine

/-- `SUB` (R35): who owns the one-level stack register. -/
inductive SubState where
  /-- The main program. -/
  | none
  /-- Entered by CALL. -/
  | call
  /-- Entered by an interrupt. -/
  | isr
  deriving DecidableEq, Repr

/-- `SND_MODE` (R43): the singing mode. -/
inductive SoundMode where
  | one | loop
  deriving DecidableEq, Repr

/-- What the environment applies to the seven input pins; bits 0..3 are PS0..PS3, bits 4..6 are
PM0..PM2 (R44). `driven` says that something drives the pin, `level` what it drives (log 17). -/
structure Pins where
  driven : BitVec 7
  level : BitVec 7
  deriving DecidableEq, Repr

/-- What the agents other than the core do between two instructions (R7, R271). -/
inductive Event where
  /-- A rising edge of the internal timer clock (R269, R272). -/
  | internalTick
  /-- A rising edge on pin TMCLK (R269). -/
  | tmclkRise
  /-- An RTC output event (R274). -/
  | rtc
  /-- The input pins change (R287). -/
  | pins (p : Pins)
  /-- A sound comes to its end (R43). -/
  | soundEnd
  /-- The writer of the ROM bank latch, where the open parameter `PB_WRITER` names one (R29, D11). -/
  | writePB (v : BitVec 2)
  /-- A pulse on RES (R300). -/
  | resLow
  deriving DecidableEq, Repr

/-- An output event of `Emit` (R10, R188, R189, R246-R250). -/
inductive Emission where
  | portA (v : Nibble)
  | portC (v : Nibble)
  | soundStart (n : Nibble) (mode : SoundMode)
  | soundMode (mode : SoundMode)
  | soundOff
  deriving DecidableEq, Repr

/-- Everything the spec gives the machine (`10_state.md` section 1), the parameters of the run, the
environment's schedule, and the model's own counters. -/
structure State where
  /-- ACC (R20). -/
  acc : Nibble
  /-- R0..R4 (R21). -/
  regs : Regs
  /-- The program counter, a byte address within the ROM bank (R24). -/
  pc : CodeAddr
  /-- PB, the ROM bank latch (R29). -/
  pb : BitVec 2
  /-- CF (R31). -/
  cf : Bool
  /-- TF, the timer flag and TIMER interrupt request (R32). -/
  tf : Bool
  /-- IE (R33). -/
  ie : Bool
  /-- RTCF, the RTC interrupt latch (R34). -/
  rtcf : Bool
  /-- SUB (R35). -/
  sub : SubState
  /-- STACK.pc (R37). -/
  stackPc : CodeAddr
  /-- STACK.cf (R37). -/
  stackCf : Bool
  /-- TMR (R40). -/
  tmr : Byte
  /-- TON (R40). -/
  ton : Bool
  /-- The latch of port A (R41). -/
  pa : Nibble
  /-- The latch of port C (R42). -/
  portc : Nibble
  /-- SND_SEL (R43). -/
  sndSel : Nibble
  /-- SND_MODE (R43). -/
  sndMode : SoundMode
  /-- SND_ON (R43). -/
  sndOn : Bool
  /-- HALTED (R45). -/
  halted : Bool
  /-- Data memory by cell number: BANK0 0..127, BANK1 128..255, DISP 256..383 (R46, R66). A cell that
  is not listed has not been written since reset (log 4). -/
  ram : Memory Nibble
  /-- Program memory by 14-bit address PB : pc (R25, R46). A byte that is not listed is the unknown
  parameter `Config.romByte` (log 5). A list of `Host.Cell`. -/
  rom : Memory Byte
  /-- What is applied to the input pins (R44, R47). -/
  pins : Pins
  /-- The mask options and open parameters, constant for a run (R4, R6, R47). -/
  cfg : Options
  /-- The events still to come: the head batch falls at the next instruction boundary (R271, log 11). -/
  schedule : List (List Event)
  /-- The output events so far, newest first (R10). The model's own field (log 36). -/
  emitted : List Emission
  /-- How many free values have been drawn. The model's own field (log 16). -/
  draws : Nat
  /-- How many RES pulses the run has seen. The model's own field (log 4, log 27). -/
  epoch : Nat
  deriving DecidableEq, Repr

/-- The machine stops with no defined behaviour: `ModelFault` (R261). The hardware itself raises no
synchronous exception (R260). -/
inductive Fault where
  /-- `IllegalOpcode`: the bytes at the program counter are no instruction (R104, R105). Raised by the
  step's fetch. Safe: the spec says nothing of what the chip does. -/
  | illegalOpcode
  /-- `CallInIsr`: CALL while SUB = isr (R211, "unpredictable behaviors may occur"). Raised by CALL.
  Safe: the spec says nothing of what the chip does. -/
  | callInIsr
  deriving DecidableEq, Repr

/-- No meaning for an instruction. -/
inductive Refusal where
  /-- The instruction of this mnemonic has no meaning in the model. Raised by `exec`'s arm of an
  instruction that is not reached yet; no arm raises it now. Safe. -/
  | notModelled (mnemonic : String)
  deriving DecidableEq, Repr

/-- The machine right after reset (R301). Listed by the reset table: `pc`, `pb`, `cf`, `tf`, `ton`, `ie`,
`sndOn`, `sndMode`, `pa`, `portc` bits 3..1. The spec's own (D19): `sub`, `halted`. Everything else
is the model's choice (log 1, 2, 4, 5, 6, 7, 8, 11, 17), unsafe where those rows say so. -/
def State.reset : State :=
  { acc := Unspecified.zero.acc
    regs := Unspecified.zero.regs
    pc := 0x000#12
    pb := 0b00#2
    cf := false
    tf := false
    ie := false
    rtcf := Unspecified.zero.rtcf
    sub := .none
    stackPc := Unspecified.zero.stackPc
    stackCf := Unspecified.zero.stackCf
    tmr := Unspecified.zero.tmr
    ton := false
    pa := 0b1111#4
    portc := 0b1100#4
    sndSel := Unspecified.zero.sndSel
    sndMode := .one
    sndOn := false
    halted := false
    ram := []
    rom := []
    pins := { driven := 0#7, level := 0#7 }
    cfg := Options.suggested
    schedule := []
    emitted := []
    draws := 0
    epoch := 0 }

end Sys2Proof.Machine
end

