-- ==== Sys2Proof/Machine/Flags.lean ====
section
/-! DEFINITION. The results and carries of the arithmetic, decimal-adjust and rotate instructions:
R120, R127, R175-R179. The only arithmetic status is CF. -/

namespace Sys2Proof.Machine

/-- A 4-bit result and the carry that goes with it. -/
structure AluOut where
  value : Nibble
  carry : Bool
  deriving DecidableEq, Repr

/-- `Add4` (R120): the 5-bit sum. -/
def add4 (a b : Nibble) (cin : Bool) : BitVec 5 :=
  a.setWidth 5 + b.setWidth 5 + (BitVec.ofBool cin).setWidth 5

/-- R120: the result is `s5[3:0]`, the carry `s5[4]` (log 25). -/
def addOut (a b : Nibble) (cin : Bool) : AluOut :=
  { value := (add4 a b cin).extractLsb' 0 4, carry := (add4 a b cin).getLsbD 4 }

/-- R120, R123, R126: subtraction is the same adder on the complement with carry-in 1. -/
def subOut (a b : Nibble) : AluOut := addOut a (~~~b) true

/-- R124: `ACC + ~M + CF`. -/
def sbcOut (a b : Nibble) (cf : Bool) : AluOut := addOut a (~~~b) cf

/-- R127: the decimal adjustment. -/
def daaOut (a : Nibble) (cf : Bool) : AluOut :=
  if 9 < a.toNat || cf then { value := a + 6#4, carry := true } else { value := a, carry := cf }

/-- R176: `old[2:0] : old[3]`, carry `old[3]`. -/
def rlOut (a : Nibble) : AluOut :=
  { value := a.extractLsb' 0 3 ++ a.extractLsb' 3 1, carry := a.getLsbD 3 }

/-- R177: `old[2:0] : CF`, carry `old[3]`. -/
def rlcOut (a : Nibble) (cf : Bool) : AluOut :=
  { value := a.extractLsb' 0 3 ++ BitVec.ofBool cf, carry := a.getLsbD 3 }

/-- R178: `old[0] : old[3:1]`, carry `old[0]`. -/
def rrOut (a : Nibble) : AluOut :=
  { value := a.extractLsb' 0 1 ++ a.extractLsb' 1 3, carry := a.getLsbD 0 }

/-- R179: `CF : old[3:1]`, carry `old[0]`. -/
def rrcOut (a : Nibble) (cf : Bool) : AluOut :=
  { value := BitVec.ofBool cf ++ a.extractLsb' 1 3, carry := a.getLsbD 0 }

end Sys2Proof.Machine
end

