-- ==== Sys2Proof/Machine/Operands.lean ====
section
/-! DEFINITION. The operand forms: working registers, the pointers and the bank they resolve to, pair
immediates, code addresses, the pins and the timer sample. -/

namespace Sys2Proof.Machine

/-- `R[i]` (R10, R21). -/
def readReg (f : Regs) : Reg → Nibble
  | .r0 => f.r0
  | .r1 => f.r1
  | .r2 => f.r2
  | .r3 => f.r3
  | .r4 => f.r4

/-- `R[i] <- v` (R10, R21). -/
def writeReg (f : Regs) (r : Reg) (v : Nibble) : Regs :=
  match r with
  | .r0 => { f with r0 := v }
  | .r1 => { f with r1 := v }
  | .r2 => { f with r2 := v }
  | .r3 => { f with r3 := v }
  | .r4 => { f with r4 := v }

/-- `ptr10 = R[1] : R[0]` (R22). -/
def State.ptr10 (s : State) : Byte := s.regs.r1 ++ s.regs.r0

/-- `ptr32 = R[3] : R[2]` (R22). -/
def State.ptr32 (s : State) : Byte := s.regs.r3 ++ s.regs.r2

/-- The cell number of a data address (R67): 80H..FFH is DISP (256..383) whatever the bank; 00H..7FH
is BANK0 (0..127) while `PORTC[0] = 0` and BANK1 (128..255) while it is 1. -/
def State.cell (s : State) (addr : Byte) : Nat :=
  if addr.getLsbD 7 then 256 + (addr.extractLsb' 0 7).toNat
  else if s.portc.getLsbD 0 then 128 + (addr.extractLsb' 0 7).toNat
  else (addr.extractLsb' 0 7).toNat

/-- The 14-bit program-memory address `PB[1] : PB[0] : a12` (R25, R62). -/
def State.romIndex (s : State) (a : CodeAddr) : Nat := (s.pb ++ a : BitVec 14).toNat

/-- The incremented program counter: `npc = (pc + L) mod 4096` (R26, R27). -/
def State.npc (s : State) (len : CodeAddr) : CodeAddr := s.pc + len

/-- R95: the 8-bit value that the two nibbles of a pair immediate stand for. -/
def pairValue (o : NibbleOrder) (d1 d2 : Nibble) : Byte :=
  match o with
  | .low => d2 ++ d1
  | .high => d1 ++ d2

/-- R111: the two nibbles `d1`, `d2` that the assembler writes for `XXH`. -/
def pairNibbles (o : NibbleOrder) (xx : Byte) : Nibble × Nibble :=
  match o with
  | .low => (xx.extractLsb' 0 4, xx.extractLsb' 4 4)
  | .high => (xx.extractLsb' 4 4, xx.extractLsb' 0 4)

/-- R196: the target of a taken conditional branch, `npc[11] : addr11`. -/
def State.branchTarget (s : State) (addr : HalfAddr) : CodeAddr :=
  (s.npc 2#12).extractLsb' 11 1 ++ addr

/-- The level of input pin i at the n-th draw (R186); pins 0..3 are PS0..PS3, 4..6 are PM0..PM2. A driven
pin has the level that drives it, an undriven pin with pull-high reads 1, an undriven pin without
reads a free level (log 17). -/
def State.pinLevel (s : State) (n i : Nat) : Bool :=
  if s.pins.driven.getLsbD i then s.pins.level.getLsbD i
  else s.cfg.pullHigh.getLsbD i || Config.freePinLevel n i

/-- `PinRead(PS)` (R187): PS3..PS0. -/
def State.readPS (s : State) : Nibble :=
  BitVec.ofBool (s.pinLevel s.draws 3) ++ BitVec.ofBool (s.pinLevel s.draws 2) ++
    BitVec.ofBool (s.pinLevel s.draws 1) ++ BitVec.ofBool (s.pinLevel s.draws 0)

/-- `PinRead(PM)` (R186): PM2..PM0. -/
def State.readPM (s : State) : BitVec 3 :=
  BitVec.ofBool (s.pinLevel s.draws 6) ++ BitVec.ofBool (s.pinLevel s.draws 5) ++
    BitVec.ofBool (s.pinLevel s.draws 4)

/-- The timer counts an external clock, so that a read of it is unsynchronised (R228). -/
def State.timerUnsynchronised (s : State) : Bool := s.ton && s.cfg.timerSrc == .external

/-- `TimerSample()` (R228): a free 8-bit value while the timer counts an external clock, else TMR
(log 18). -/
def State.timerSample (s : State) : Byte :=
  if s.timerUnsynchronised then Config.freeTimerSample s.draws else s.tmr

end Sys2Proof.Machine
end

