-- ==== Sys2Proof/Machine/Ops.lean ====
section
/-! DEFINITION. The named operations over memory and registers; interrupt entry and the returns; the
reset of R301. Every meaning is built from these. -/

namespace Sys2Proof

/-- The value listed for key `a`, if there is one. -/
def Memory.read {α : Type} : Memory α → Nat → Option α
  | [], _ => none
  | (k, v) :: m, a => if a = k then some v else Memory.read m a

/-- Lists `v` for key `a`, keeping the keys strictly rising. -/
def Memory.write {α : Type} : Memory α → Nat → α → Memory α
  | [], a, v => [(a, v)]
  | (k, w) :: m, a, v =>
    if a < k then (a, v) :: (k, w) :: m
    else if a = k then (a, v) :: m
    else (k, w) :: Memory.write m a v

/-- The canonical form: keys strictly rising, all of them below `size`. An unlisted key has no value, so
no entry can equal what it reads as. -/
abbrev Memory.wf {α : Type} (size : Nat) (m : Memory α) : Prop :=
  (m.map Prod.fst).Pairwise (· < ·) ∧ ∀ k ∈ m.map Prod.fst, k < size

namespace Machine

/-- Number of data-memory cells: BANK0, BANK1, DISP (R66, D33). -/
def ramSize : Nat := 384

/-- Number of program-memory bytes: four banks of 4096 (R60). -/
def romSize : Nat := 16384

/-- The value of a data-memory cell: what was last written, else a free value (R81, log 4). -/
def State.ramCell (s : State) (k : Nat) : Nibble :=
  (s.ram.read k).getD (Config.freeRam s.epoch k)

/-- The value of a program-memory byte by its 14-bit address: what is listed, else the unknown
parameter (R4, log 5). -/
def State.romByte (s : State) (k : Nat) : Byte :=
  (s.rom.read k).getD (Config.romByte k)

/-- `MemRead(addr, 1)` (R67). -/
def State.memRead (s : State) (addr : Byte) : Nibble := s.ramCell (s.cell addr)

/-- `MemWrite(addr, 1, v)` (R67). -/
def State.memWrite (s : State) (addr : Byte) (v : Nibble) : State :=
  { s with ram := s.ram.write (s.cell addr) v }

/-- `RomRead(a12)` (R62). -/
def State.romRead (s : State) (a : CodeAddr) : Byte := s.romByte (s.romIndex a)

/-- `R[i]` (R10). -/
def State.reg (s : State) (r : Reg) : Nibble := readReg s.regs r

/-- `R[i] <- v` (R10). -/
def State.setReg (s : State) (r : Reg) (v : Nibble) : State :=
  { s with regs := writeReg s.regs r v }

/-- A register pair receives an 8-bit value, the high nibble in the odd register (R22, R168, R169). -/
def State.setPair (s : State) (hi lo : Reg) (v : Byte) : State :=
  (s.setReg hi (v.extractLsb' 4 4)).setReg lo (v.extractLsb' 0 4)

/-- `ACC <- v` (R20). -/
def State.setAcc (s : State) (v : Nibble) : State := { s with acc := v }

/-- `CF <- b` (R31). -/
def State.setCf (s : State) (b : Bool) : State := { s with cf := b }

/-- `ACC` and `CF` receive a result and its carry. -/
def State.setAlu (s : State) (o : AluOut) : State := { s with acc := o.value, cf := o.carry }

/-- `TF <- b` (R32). -/
def State.setTf (s : State) (b : Bool) : State := { s with tf := b }

/-- `IE <- b` (R33). -/
def State.setIe (s : State) (b : Bool) : State := { s with ie := b }

/-- `TMR <- v` (R40). -/
def State.setTmr (s : State) (v : Byte) : State := { s with tmr := v }

/-- `TON <- b` (R40). -/
def State.setTon (s : State) (b : Bool) : State := { s with ton := b }

/-- `HALTED <- b` (R45). -/
def State.setHalted (s : State) (b : Bool) : State := { s with halted := b }

/-- `pc <- target` (R10). -/
def State.jump (s : State) (target : CodeAddr) : State := { s with pc := target }

/-- `pc <- npc` for an instruction of `len` bytes (R26, R27, log 32). -/
def State.advance (s : State) (len : CodeAddr) : State := s.jump (s.npc len)

/-- `Emit(event)` (R10, log 36). -/
def State.emit (s : State) (e : Emission) : State := { s with emitted := e :: s.emitted }

/-- The latch of port A and its event (R188). -/
def State.outPA (s : State) (v : Nibble) : State := { s with pa := v }.emit (.portA v)

/-- The latch of port C and its event (R189). -/
def State.outPC (s : State) (v : Nibble) : State := { s with portc := v }.emit (.portC v)

/-- Starts sound `n` in the mode in force (R246, R247). -/
def State.startSound (s : State) (n : Nibble) : State :=
  { s with sndSel := n, sndOn := true }.emit (.soundStart n s.sndMode)

/-- Selects the singing mode (R248, R249). -/
def State.setSoundMode (s : State) (m : SoundMode) : State :=
  { s with sndMode := m }.emit (.soundMode m)

/-- Ends the sound (R250). -/
def State.stopSound (s : State) : State := { s with sndOn := false }.emit .soundOff

/-- A free value has been drawn; the next draw is another (log 16). -/
def State.drawn (s : State) : State := { s with draws := s.draws + 1 }

/-- After a timer read: a draw was made only if the read was unsynchronised (R228). -/
def State.sampled (s : State) : State := if s.timerUnsynchronised then s.drawn else s

/-- `CondBranch(cond, addr11)` (R196, log 21). -/
def State.condBranch (s : State) (cond : Bool) (addr : HalfAddr) : State :=
  if cond then s.jump (s.branchTarget addr) else s.advance 2#12

/-- The byte of a table read (R232): address `page : ACC : low` in the current bank. -/
def State.tableByte (s : State) (page low : Nibble) : Byte := s.romRead (page ++ s.acc ++ low)

/-- The current page of READ (R233): bits 11..8 of the incremented program counter (log 22). -/
def State.currentPage (s : State) : Nibble := (s.npc 1#12).extractLsb' 8 4

/-- The `R4A` destinations of a table read (R234, R236): R4 and ACC. -/
def State.tableToR4 (s : State) (b : Byte) : State :=
  (s.setReg .r4 (b.extractLsb' 4 4)).setAcc (b.extractLsb' 0 4)

/-- The `MR0A` destinations of a table read (R235, R237): M(R1,R0) and ACC. -/
def State.tableToMem (s : State) (b : Byte) : State :=
  (s.memWrite s.ptr10 (b.extractLsb' 4 4)).setAcc (b.extractLsb' 0 4)

/-- CALL's effect (R211): STACK.pc and SUB; STACK.cf is not stored (log 14). -/
def State.callTo (s : State) (target : CodeAddr) : State :=
  { s with stackPc := s.npc 2#12, sub := .call, pc := target }

/-- An interrupt is accepted at this boundary (R275): not halted, IE, SUB = none, a latch set. -/
def State.interruptAccepted (s : State) : Bool :=
  !s.halted && s.ie && s.sub == .none && (s.rtcf || s.tf)

/-- Interrupt entry (R277): saves pc and CF, sets SUB = isr, clears the accepted latch (RTC first, R278)
and goes to the entry address in the current bank (log 13). -/
def State.takeInterrupt (s : State) : State :=
  if s.rtcf then
    { s with stackPc := s.pc, stackCf := s.cf, sub := .isr, rtcf := false, pc := 0x008#12 }
  else
    { s with stackPc := s.pc, stackCf := s.cf, sub := .isr, tf := false, pc := 0x004#12 }

/-- RET (R212): pc from the stack register, SUB = none (log 15). -/
def State.returnSub (s : State) : State := { s with pc := s.stackPc, sub := .none }

/-- RETI (R213): as RET, and CF from the stack register (log 15). -/
def State.returnInt (s : State) : State :=
  { s with pc := s.stackPc, cf := s.stackCf, sub := .none }

/-- The state after a RES pulse (R301, R302): the reset table, `u` for everything it omits, no cell of
data memory written. The ROM, the options, the pins, the schedule and the model's own trace and draw
counter are not the machine's to reset. -/
def State.afterReset (s : State) (u : Unspecified) (epoch : Nat) : State :=
  { s with
    acc := u.acc
    regs := u.regs
    pc := 0x000#12
    pb := 0b00#2
    cf := false
    tf := false
    ie := false
    rtcf := u.rtcf
    sub := .none
    stackPc := u.stackPc
    stackCf := u.stackCf
    tmr := u.tmr
    ton := false
    pa := 0b1111#4
    portc := 0b11#2 ++ BitVec.ofBool (!s.cfg.lcdOnLevel) ++ BitVec.ofBool u.portc0
    sndSel := u.sndSel
    sndMode := .one
    sndOn := false
    halted := false
    ram := []
    epoch := epoch }

end Machine

end Sys2Proof
end

