-- ==== Sys2Proof/Machine/Boundary.lean ====
section
/-! DEFINITION. What happens at an instruction boundary before the core acts: the agents' events
(R269-R274, R287, R300) and the ends of HALT (R284-R289). The fetch of R65. -/

namespace Sys2Proof.Machine

/-- `TimerTick` (R270). -/
def State.timerTick (s : State) : State :=
  if s.ton then
    if s.tmr = 0xFF#8 then { s with tmr := 0x00#8, tf := true } else { s with tmr := s.tmr + 1#8 }
  else s

/-- A pin whose `WAKE_EN` option is set goes from high to low when the pins change to `p` (R287). The
level of a floating pin is drawn anew (log 17). -/
def State.wakePinFalls (s : State) (p : Pins) : Bool :=
  (List.range 7).any fun i =>
    s.cfg.wakeEn.getLsbD i && s.pinLevel s.draws i &&
      !({ s with pins := p }).pinLevel (s.draws + 1) i

/-- The pins change (R287): in HALT, the fall of a wake-enabled pin ends it. -/
def State.changePins (s : State) (p : Pins) : State :=
  { s with pins := p, draws := s.draws + 1, halted := s.halted && !s.wakePinFalls p }

/-- The end of a sound (R43): in `ONE` mode `SND_ON` is cleared. DESIGN CHOICE (log 38): the mode in force
when the end falls decides, not the mode in which the sound was started; the spec does not say
whether a change of mode affects a sound that plays (R248, N12). -/
def State.endSound (s : State) : State := { s with sndOn := s.sndOn && s.sndMode != .one }

/-- One event of an agent. In HALT only the RTC, the pins and RES act (R284): the internal clock and the
sound clock stand still (R252, R289, log 26), the bank latch is frozen (log 9), and TMCLK edges count
only where `TIMER_EXT_IN_HALT` says so (R289, log 10). -/
def State.applyEvent (s : State) : Event → State
  | .internalTick =>
    match s.cfg.timerSrc with
    | .external => s
    | .internal _ => if s.halted then s else s.timerTick
  | .tmclkRise =>
    match s.cfg.timerSrc with
    | .external => if s.halted && s.cfg.timerExtInHalt == .stops then s else s.timerTick
    | .internal _ => s
  | .rtc => { s with rtcf := true }
  | .pins p => s.changePins p
  | .soundEnd => if s.halted then s else s.endSound
  | .writePB v => if s.cfg.pbWriter && !s.halted then { s with pb := v } else s
  | .resLow => s.afterReset (Config.unspecified (s.epoch + 1)) (s.epoch + 1)

/-- Wake-up by the RTC (R286, R288): the latch, not the event, ends HALT (log 20). -/
def State.wake (s : State) : State := s.setHalted (s.halted && !s.rtcf)

/-- The events of one batch, in order, each followed by the wake-up check. -/
def State.applyEvents (s : State) (es : List Event) : State :=
  es.foldl (fun t e => (t.applyEvent e).wake) s

/-- The instruction boundary: the wake-up check, then the head batch of the schedule (R271). -/
def State.boundary (s : State) : State :=
  match s.schedule with
  | [] => s.wake
  | es :: rest => ({ s with schedule := rest }).wake.applyEvents es

/-- R65: the two bytes at the program counter, the second at `(pc + 1) mod 4096` of the same bank. -/
def State.fetchBytes (s : State) : List Byte := [s.romRead s.pc, s.romRead (s.npc 1#12)]

/-- R65, R107: the instruction at the program counter. -/
def State.fetch (s : State) : Except DecodeError Instr :=
  match decode s.fetchBytes with
  | .ok (i, _) => .ok i
  | .error e => .error e

/-- The fault of bytes that are no instruction (R104, R105). -/
def decodeFault : DecodeError → Fault
  | .unassignedOpcode => .illegalOpcode
  | .badSecondByte => .illegalOpcode
  | .truncated => .illegalOpcode

end Sys2Proof.Machine
end

