-- ==== Sys2Proof/Machine/Arithmetic.lean ====
section
/-! DEFINITION. Arithmetic (R120-R127). -/

namespace Sys2Proof.Machine

/-- `ADD A,[R1R0]` (R121). -/
def execAddAMem (s : State) : Host.Outcome State Fault Refusal :=
  .next ((s.setAlu (addOut s.acc (s.memRead s.ptr10) false)).advance 1#12)

/-- `ADC A,[R1R0]` (R122). -/
def execAdcAMem (s : State) : Host.Outcome State Fault Refusal :=
  .next ((s.setAlu (addOut s.acc (s.memRead s.ptr10) s.cf)).advance 1#12)

/-- `SUB A,[R1R0]` (R123). -/
def execSubAMem (s : State) : Host.Outcome State Fault Refusal :=
  .next ((s.setAlu (subOut s.acc (s.memRead s.ptr10))).advance 1#12)

/-- `SBC A,[R1R0]` (R124). -/
def execSbcAMem (s : State) : Host.Outcome State Fault Refusal :=
  .next ((s.setAlu (sbcOut s.acc (s.memRead s.ptr10) s.cf)).advance 1#12)

/-- `ADD A,XH` (R125). -/
def execAddAImm (x : Nibble) (s : State) : Host.Outcome State Fault Refusal :=
  .next ((s.setAlu (addOut s.acc x false)).advance 2#12)

/-- `SUB A,XH` (R126). -/
def execSubAImm (x : Nibble) (s : State) : Host.Outcome State Fault Refusal :=
  .next ((s.setAlu (subOut s.acc x)).advance 2#12)

/-- `DAA` (R127). -/
def execDaa (s : State) : Host.Outcome State Fault Refusal :=
  .next ((s.setAlu (daaOut s.acc s.cf)).advance 1#12)

end Sys2Proof.Machine
end

