-- ==== Sys2Proof/Machine/Branch.lean ====
section
/-! DEFINITION. Branch (R195-R205). -/

namespace Sys2Proof.Machine

/-- `JMP address` (R197). -/
def execJmp (addr : CodeAddr) (s : State) : Host.Outcome State Fault Refusal :=
  .next (s.jump addr)

/-- `JC address` (R198). -/
def execJc (addr : HalfAddr) (s : State) : Host.Outcome State Fault Refusal :=
  .next (s.condBranch s.cf addr)

/-- `JNC address` (R199). -/
def execJnc (addr : HalfAddr) (s : State) : Host.Outcome State Fault Refusal :=
  .next (s.condBranch (!s.cf) addr)

/-- `JTMR address` (R200). TF is tested, then cleared whether or not the jump is taken. -/
def execJtmr (addr : HalfAddr) (s : State) : Host.Outcome State Fault Refusal :=
  .next ((s.condBranch s.tf addr).setTf false)

/-- `JA0 address` (R201). -/
def execJa0 (addr : HalfAddr) (s : State) : Host.Outcome State Fault Refusal :=
  .next (s.condBranch (s.acc.getLsbD 0) addr)

/-- `JA1 address` (R201). -/
def execJa1 (addr : HalfAddr) (s : State) : Host.Outcome State Fault Refusal :=
  .next (s.condBranch (s.acc.getLsbD 1) addr)

/-- `JA2 address` (R201). -/
def execJa2 (addr : HalfAddr) (s : State) : Host.Outcome State Fault Refusal :=
  .next (s.condBranch (s.acc.getLsbD 2) addr)

/-- `JA3 address` (R201). -/
def execJa3 (addr : HalfAddr) (s : State) : Host.Outcome State Fault Refusal :=
  .next (s.condBranch (s.acc.getLsbD 3) addr)

/-- `JZ A,address` (R202). -/
def execJzA (addr : HalfAddr) (s : State) : Host.Outcome State Fault Refusal :=
  .next (s.condBranch (s.acc == 0#4) addr)

/-- `JNZ A,address` (R203). -/
def execJnzA (addr : HalfAddr) (s : State) : Host.Outcome State Fault Refusal :=
  .next (s.condBranch (s.acc != 0#4) addr)

/-- `JNZ R0,address` (R204). -/
def execJnzR0 (addr : HalfAddr) (s : State) : Host.Outcome State Fault Refusal :=
  .next (s.condBranch (s.reg .r0 != 0#4) addr)

/-- `JNZ R1,address` (R204). -/
def execJnzR1 (addr : HalfAddr) (s : State) : Host.Outcome State Fault Refusal :=
  .next (s.condBranch (s.reg .r1 != 0#4) addr)

/-- `JNZ R4,address` (R204). -/
def execJnzR4 (addr : HalfAddr) (s : State) : Host.Outcome State Fault Refusal :=
  .next (s.condBranch (s.reg .r4 != 0#4) addr)

end Sys2Proof.Machine
end

