-- ==== Sys2Proof/Machine/DataMove.lean ====
section
/-! DEFINITION. Data move (R160-R170). -/

namespace Sys2Proof.Machine

/-- `MOV A,R0` (R161). -/
def execMovAR0 (s : State) : Host.Outcome State Fault Refusal :=
  .next ((s.setAcc (s.reg .r0)).advance 1#12)

/-- `MOV A,R1` (R161). -/
def execMovAR1 (s : State) : Host.Outcome State Fault Refusal :=
  .next ((s.setAcc (s.reg .r1)).advance 1#12)

/-- `MOV A,R2` (R161). -/
def execMovAR2 (s : State) : Host.Outcome State Fault Refusal :=
  .next ((s.setAcc (s.reg .r2)).advance 1#12)

/-- `MOV A,R3` (R161). -/
def execMovAR3 (s : State) : Host.Outcome State Fault Refusal :=
  .next ((s.setAcc (s.reg .r3)).advance 1#12)

/-- `MOV A,R4` (R161). -/
def execMovAR4 (s : State) : Host.Outcome State Fault Refusal :=
  .next ((s.setAcc (s.reg .r4)).advance 1#12)

/-- `MOV R0,A` (R162). -/
def execMovR0A (s : State) : Host.Outcome State Fault Refusal :=
  .next ((s.setReg .r0 s.acc).advance 1#12)

/-- `MOV R1,A` (R162). -/
def execMovR1A (s : State) : Host.Outcome State Fault Refusal :=
  .next ((s.setReg .r1 s.acc).advance 1#12)

/-- `MOV R2,A` (R162). -/
def execMovR2A (s : State) : Host.Outcome State Fault Refusal :=
  .next ((s.setReg .r2 s.acc).advance 1#12)

/-- `MOV R3,A` (R162). -/
def execMovR3A (s : State) : Host.Outcome State Fault Refusal :=
  .next ((s.setReg .r3 s.acc).advance 1#12)

/-- `MOV R4,A` (R162). -/
def execMovR4A (s : State) : Host.Outcome State Fault Refusal :=
  .next ((s.setReg .r4 s.acc).advance 1#12)

/-- `MOV A,[R1R0]` (R163). -/
def execMovAMem10 (s : State) : Host.Outcome State Fault Refusal :=
  .next ((s.setAcc (s.memRead s.ptr10)).advance 1#12)

/-- `MOV A,[R3R2]` (R164). -/
def execMovAMem32 (s : State) : Host.Outcome State Fault Refusal :=
  .next ((s.setAcc (s.memRead s.ptr32)).advance 1#12)

/-- `MOV [R1R0],A` (R165). -/
def execMovMem10A (s : State) : Host.Outcome State Fault Refusal :=
  .next ((s.memWrite s.ptr10 s.acc).advance 1#12)

/-- `MOV [R3R2],A` (R166). -/
def execMovMem32A (s : State) : Host.Outcome State Fault Refusal :=
  .next ((s.memWrite s.ptr32 s.acc).advance 1#12)

/-- `MOV A,XH` (R167). -/
def execMovAImm (x : Nibble) (s : State) : Host.Outcome State Fault Refusal :=
  .next ((s.setAcc x).advance 1#12)

/-- `MOV R1R0,XXH` (R168). -/
def execMovR1R0Imm (d1 : Nibble) (d2 : Nibble) (s : State) : Host.Outcome State Fault Refusal :=
  .next ((s.setPair .r1 .r0 (pairValue s.cfg.pairImmFirst d1 d2)).advance 2#12)

/-- `MOV R3R2,XXH` (R169). -/
def execMovR3R2Imm (d1 : Nibble) (d2 : Nibble) (s : State) : Host.Outcome State Fault Refusal :=
  .next ((s.setPair .r3 .r2 (pairValue s.cfg.pairImmFirst d1 d2)).advance 2#12)

/-- `MOV R4,XH` (R170). -/
def execMovR4Imm (x : Nibble) (s : State) : Host.Outcome State Fault Refusal :=
  .next ((s.setReg .r4 x).advance 2#12)

end Sys2Proof.Machine
end

