-- ==== Sys2Proof/Machine/InOut.lean ====
section
/-! DEFINITION. Input and output (R185-R190). -/

namespace Sys2Proof.Machine

/-- `IN A,PM` (R186). Bit 3 of ACC is a free value (log 16). -/
def execInAPM (s : State) : Host.Outcome State Fault Refusal :=
  .next ((s.setAcc (Config.freePmBit3 s.draws ++ s.readPM)).drawn.advance 1#12)

/-- `IN A,PS` (R187). -/
def execInAPS (s : State) : Host.Outcome State Fault Refusal :=
  .next ((s.setAcc s.readPS).drawn.advance 1#12)

/-- `OUT PA,A` (R188). -/
def execOutPAA (s : State) : Host.Outcome State Fault Refusal :=
  .next ((s.outPA s.acc).advance 1#12)

/-- `OUT PC,A` (R189). -/
def execOutPCA (s : State) : Host.Outcome State Fault Refusal :=
  .next ((s.outPC s.acc).advance 1#12)

end Sys2Proof.Machine
end

