-- ==== Sys2Proof/Machine/IncDec.lean ====
section
/-! DEFINITION. Increment and decrement (R145-R153). -/

namespace Sys2Proof.Machine

/-- `INC A` (R146). -/
def execIncA (s : State) : Host.Outcome State Fault Refusal :=
  .next ((s.setAcc (s.acc + 1#4)).advance 1#12)

/-- `INC R0` (R147). -/
def execIncR0 (s : State) : Host.Outcome State Fault Refusal :=
  .next ((s.setReg .r0 (s.reg .r0 + 1#4)).advance 1#12)

/-- `INC R1` (R147). -/
def execIncR1 (s : State) : Host.Outcome State Fault Refusal :=
  .next ((s.setReg .r1 (s.reg .r1 + 1#4)).advance 1#12)

/-- `INC R2` (R147). -/
def execIncR2 (s : State) : Host.Outcome State Fault Refusal :=
  .next ((s.setReg .r2 (s.reg .r2 + 1#4)).advance 1#12)

/-- `INC R3` (R147). -/
def execIncR3 (s : State) : Host.Outcome State Fault Refusal :=
  .next ((s.setReg .r3 (s.reg .r3 + 1#4)).advance 1#12)

/-- `INC R4` (R147). -/
def execIncR4 (s : State) : Host.Outcome State Fault Refusal :=
  .next ((s.setReg .r4 (s.reg .r4 + 1#4)).advance 1#12)

/-- `INC [R1R0]` (R148). -/
def execIncMem10 (s : State) : Host.Outcome State Fault Refusal :=
  .next ((s.memWrite s.ptr10 (s.memRead s.ptr10 + 1#4)).advance 1#12)

/-- `INC [R3R2]` (R149). -/
def execIncMem32 (s : State) : Host.Outcome State Fault Refusal :=
  .next ((s.memWrite s.ptr32 (s.memRead s.ptr32 + 1#4)).advance 1#12)

/-- `DEC A` (R150). -/
def execDecA (s : State) : Host.Outcome State Fault Refusal :=
  .next ((s.setAcc (s.acc - 1#4)).advance 1#12)

/-- `DEC R0` (R151). -/
def execDecR0 (s : State) : Host.Outcome State Fault Refusal :=
  .next ((s.setReg .r0 (s.reg .r0 - 1#4)).advance 1#12)

/-- `DEC R1` (R151). -/
def execDecR1 (s : State) : Host.Outcome State Fault Refusal :=
  .next ((s.setReg .r1 (s.reg .r1 - 1#4)).advance 1#12)

/-- `DEC R2` (R151). -/
def execDecR2 (s : State) : Host.Outcome State Fault Refusal :=
  .next ((s.setReg .r2 (s.reg .r2 - 1#4)).advance 1#12)

/-- `DEC R3` (R151). -/
def execDecR3 (s : State) : Host.Outcome State Fault Refusal :=
  .next ((s.setReg .r3 (s.reg .r3 - 1#4)).advance 1#12)

/-- `DEC R4` (R151). -/
def execDecR4 (s : State) : Host.Outcome State Fault Refusal :=
  .next ((s.setReg .r4 (s.reg .r4 - 1#4)).advance 1#12)

/-- `DEC [R1R0]` (R152). -/
def execDecMem10 (s : State) : Host.Outcome State Fault Refusal :=
  .next ((s.memWrite s.ptr10 (s.memRead s.ptr10 - 1#4)).advance 1#12)

/-- `DEC [R3R2]` (R153). -/
def execDecMem32 (s : State) : Host.Outcome State Fault Refusal :=
  .next ((s.memWrite s.ptr32 (s.memRead s.ptr32 - 1#4)).advance 1#12)

end Sys2Proof.Machine
end

