-- ==== Sys2Proof/Machine/Logic.lean ====
section
/-! DEFINITION. Logic operation (R130-R139). -/

namespace Sys2Proof.Machine

/-- `AND A,[R1R0]` (R131). -/
def execAndAMem (s : State) : Host.Outcome State Fault Refusal :=
  .next ((s.setAcc (s.acc &&& s.memRead s.ptr10)).advance 1#12)

/-- `OR A,[R1R0]` (R132). -/
def execOrAMem (s : State) : Host.Outcome State Fault Refusal :=
  .next ((s.setAcc (s.acc ||| s.memRead s.ptr10)).advance 1#12)

/-- `XOR A,[R1R0]` (R133). -/
def execXorAMem (s : State) : Host.Outcome State Fault Refusal :=
  .next ((s.setAcc (s.acc ^^^ s.memRead s.ptr10)).advance 1#12)

/-- `AND [R1R0],A` (R134). -/
def execAndMemA (s : State) : Host.Outcome State Fault Refusal :=
  .next ((s.memWrite s.ptr10 (s.memRead s.ptr10 &&& s.acc)).advance 1#12)

/-- `OR [R1R0],A` (R135). -/
def execOrMemA (s : State) : Host.Outcome State Fault Refusal :=
  .next ((s.memWrite s.ptr10 (s.memRead s.ptr10 ||| s.acc)).advance 1#12)

/-- `XOR [R1R0],A` (R136). -/
def execXorMemA (s : State) : Host.Outcome State Fault Refusal :=
  .next ((s.memWrite s.ptr10 (s.memRead s.ptr10 ^^^ s.acc)).advance 1#12)

/-- `AND A,XH` (R137). -/
def execAndAImm (x : Nibble) (s : State) : Host.Outcome State Fault Refusal :=
  .next ((s.setAcc (s.acc &&& x)).advance 2#12)

/-- `OR A,XH` (R138). -/
def execOrAImm (x : Nibble) (s : State) : Host.Outcome State Fault Refusal :=
  .next ((s.setAcc (s.acc ||| x)).advance 2#12)

/-- `XOR A,XH` (R139). -/
def execXorAImm (x : Nibble) (s : State) : Host.Outcome State Fault Refusal :=
  .next ((s.setAcc (s.acc ^^^ x)).advance 2#12)

end Sys2Proof.Machine
end

