-- ==== Sys2Proof/Machine/Rotate.lean ====
section
/-! DEFINITION. Rotate (R175-R179). -/

namespace Sys2Proof.Machine

/-- `RL A` (R176). -/
def execRlA (s : State) : Host.Outcome State Fault Refusal :=
  .next ((s.setAlu (rlOut s.acc)).advance 1#12)

/-- `RLC A` (R177). -/
def execRlcA (s : State) : Host.Outcome State Fault Refusal :=
  .next ((s.setAlu (rlcOut s.acc s.cf)).advance 1#12)

/-- `RR A` (R178). -/
def execRrA (s : State) : Host.Outcome State Fault Refusal :=
  .next ((s.setAlu (rrOut s.acc)).advance 1#12)

/-- `RRC A` (R179). -/
def execRrcA (s : State) : Host.Outcome State Fault Refusal :=
  .next ((s.setAlu (rrcOut s.acc s.cf)).advance 1#12)

end Sys2Proof.Machine
end

