-- ==== Sys2Proof/Machine/SoundHalt.lean ====
section
/-! DEFINITION. Sound control and HALT (R245-R252). -/

namespace Sys2Proof.Machine

/-- `SOUND n` (R246). -/
def execSoundN (n : Nibble) (s : State) : Host.Outcome State Fault Refusal :=
  .next ((s.startSound n).advance 2#12)

/-- `SOUND A` (R247). -/
def execSoundA (s : State) : Host.Outcome State Fault Refusal :=
  .next ((s.startSound s.acc).advance 1#12)

/-- `SOUND ONE` (R248). -/
def execSoundOne (s : State) : Host.Outcome State Fault Refusal :=
  .next ((s.setSoundMode .one).advance 1#12)

/-- `SOUND LOOP` (R249). -/
def execSoundLoop (s : State) : Host.Outcome State Fault Refusal :=
  .next ((s.setSoundMode .loop).advance 1#12)

/-- `SOUND OFF` (R250). -/
def execSoundOff (s : State) : Host.Outcome State Fault Refusal :=
  .next (s.stopSound.advance 1#12)

/-- `HALT` (R251). The counter stands after both bytes (log 20). -/
def execHalt (s : State) : Host.Outcome State Fault Refusal :=
  .next ((s.setHalted true).advance 2#12)

end Sys2Proof.Machine
end

