-- ==== Sys2Proof/Machine/Subroutine.lean ====
section
/-! DEFINITION. Subroutine and flag (R210-R219). -/

namespace Sys2Proof.Machine

/-- `CALL address` (R211). In an interrupt routine the spec gives it no behaviour (log 14). -/
def execCall (addr : CodeAddr) (s : State) : Host.Outcome State Fault Refusal :=
  match s.sub with
  | .isr => .fault .callInIsr
  | .none => .next (s.callTo addr)
  | .call => .next (s.callTo addr)

/-- `RET` (R212). -/
def execRet (s : State) : Host.Outcome State Fault Refusal :=
  .next s.returnSub

/-- `RETI` (R213). -/
def execReti (s : State) : Host.Outcome State Fault Refusal :=
  .next s.returnInt

/-- `CLC` (R214). -/
def execClc (s : State) : Host.Outcome State Fault Refusal :=
  .next ((s.setCf false).advance 1#12)

/-- `STC` (R215). -/
def execStc (s : State) : Host.Outcome State Fault Refusal :=
  .next ((s.setCf true).advance 1#12)

/-- `EI` (R216). -/
def execEi (s : State) : Host.Outcome State Fault Refusal :=
  .next ((s.setIe true).advance 1#12)

/-- `DI` (R217). -/
def execDi (s : State) : Host.Outcome State Fault Refusal :=
  .next ((s.setIe false).advance 1#12)

/-- `NOP` (R218). -/
def execNop (s : State) : Host.Outcome State Fault Refusal :=
  .next (s.advance 1#12)

end Sys2Proof.Machine
end

