-- ==== Sys2Proof/Machine/TableRead.lean ====
section
/-! DEFINITION. Table read (R232-R237). -/

namespace Sys2Proof.Machine

/-- `READ R4A` (R234). -/
def execReadR4A (s : State) : Host.Outcome State Fault Refusal :=
  .next ((s.tableToR4 (s.tableByte s.currentPage (s.memRead s.ptr10))).advance 1#12)

/-- `READ MR0A` (R235). -/
def execReadMR0A (s : State) : Host.Outcome State Fault Refusal :=
  .next ((s.tableToMem (s.tableByte s.currentPage (s.reg .r4))).advance 1#12)

/-- `READF R4A` (R236). -/
def execReadfR4A (s : State) : Host.Outcome State Fault Refusal :=
  .next ((s.tableToR4 (s.tableByte 0xF#4 (s.memRead s.ptr10))).advance 1#12)

/-- `READF MR0A` (R237). -/
def execReadfMR0A (s : State) : Host.Outcome State Fault Refusal :=
  .next ((s.tableToMem (s.tableByte 0xF#4 (s.reg .r4))).advance 1#12)

end Sys2Proof.Machine
end

