-- ==== Sys2Proof/Machine/Timer.lean ====
section
/-! DEFINITION. Timer instructions (R224-R231). -/

namespace Sys2Proof.Machine

/-- `TIMER XXH` (R225). -/
def execTimerImm (xx : Byte) (s : State) : Host.Outcome State Fault Refusal :=
  .next ((s.setTmr xx).advance 2#12)

/-- `TIMER ON` (R226). -/
def execTimerOn (s : State) : Host.Outcome State Fault Refusal :=
  .next ((s.setTon true).advance 1#12)

/-- `TIMER OFF` (R227). -/
def execTimerOff (s : State) : Host.Outcome State Fault Refusal :=
  .next ((s.setTon false).advance 1#12)

/-- `MOV A,TMRL` (R228). The sample may be a free value (log 18). -/
def execMovATmrl (s : State) : Host.Outcome State Fault Refusal :=
  .next ((s.setAcc (s.timerSample.extractLsb' 0 4)).sampled.advance 1#12)

/-- `MOV A,TMRH` (R229). The sample may be a free value (log 18). -/
def execMovATmrh (s : State) : Host.Outcome State Fault Refusal :=
  .next ((s.setAcc (s.timerSample.extractLsb' 4 4)).sampled.advance 1#12)

/-- `MOV TMRL,A` (R230). -/
def execMovTmrlA (s : State) : Host.Outcome State Fault Refusal :=
  .next ((s.setTmr (s.tmr.extractLsb' 4 4 ++ s.acc)).advance 1#12)

/-- `MOV TMRH,A` (R231). -/
def execMovTmrhA (s : State) : Host.Outcome State Fault Refusal :=
  .next ((s.setTmr (s.acc ++ s.tmr.extractLsb' 0 4)).advance 1#12)

end Sys2Proof.Machine
end

