-- ==== Sys2Proof/Machine/Dispatch.lean ====
section
/-! DEFINITION. One arm per constructor of Instr, each a direct call of its meaning. -/

namespace Sys2Proof.Machine

def exec (i : Instr) (s : State) : Host.Outcome State Fault Refusal :=
  match i with
  | .rrA => Sys2Proof.Machine.execRrA s
  | .rlA => Sys2Proof.Machine.execRlA s
  | .rrcA => Sys2Proof.Machine.execRrcA s
  | .rlcA => Sys2Proof.Machine.execRlcA s
  | .movAMem10 => Sys2Proof.Machine.execMovAMem10 s
  | .movMem10A => Sys2Proof.Machine.execMovMem10A s
  | .movAMem32 => Sys2Proof.Machine.execMovAMem32 s
  | .movMem32A => Sys2Proof.Machine.execMovMem32A s
  | .adcAMem => Sys2Proof.Machine.execAdcAMem s
  | .addAMem => Sys2Proof.Machine.execAddAMem s
  | .sbcAMem => Sys2Proof.Machine.execSbcAMem s
  | .subAMem => Sys2Proof.Machine.execSubAMem s
  | .incMem10 => Sys2Proof.Machine.execIncMem10 s
  | .decMem10 => Sys2Proof.Machine.execDecMem10 s
  | .incMem32 => Sys2Proof.Machine.execIncMem32 s
  | .decMem32 => Sys2Proof.Machine.execDecMem32 s
  | .incR0 => Sys2Proof.Machine.execIncR0 s
  | .decR0 => Sys2Proof.Machine.execDecR0 s
  | .incR1 => Sys2Proof.Machine.execIncR1 s
  | .decR1 => Sys2Proof.Machine.execDecR1 s
  | .incR2 => Sys2Proof.Machine.execIncR2 s
  | .decR2 => Sys2Proof.Machine.execDecR2 s
  | .incR3 => Sys2Proof.Machine.execIncR3 s
  | .decR3 => Sys2Proof.Machine.execDecR3 s
  | .incR4 => Sys2Proof.Machine.execIncR4 s
  | .decR4 => Sys2Proof.Machine.execDecR4 s
  | .andAMem => Sys2Proof.Machine.execAndAMem s
  | .xorAMem => Sys2Proof.Machine.execXorAMem s
  | .orAMem => Sys2Proof.Machine.execOrAMem s
  | .andMemA => Sys2Proof.Machine.execAndMemA s
  | .xorMemA => Sys2Proof.Machine.execXorMemA s
  | .orMemA => Sys2Proof.Machine.execOrMemA s
  | .movR0A => Sys2Proof.Machine.execMovR0A s
  | .movAR0 => Sys2Proof.Machine.execMovAR0 s
  | .movR1A => Sys2Proof.Machine.execMovR1A s
  | .movAR1 => Sys2Proof.Machine.execMovAR1 s
  | .movR2A => Sys2Proof.Machine.execMovR2A s
  | .movAR2 => Sys2Proof.Machine.execMovAR2 s
  | .movR3A => Sys2Proof.Machine.execMovR3A s
  | .movAR3 => Sys2Proof.Machine.execMovAR3 s
  | .movR4A => Sys2Proof.Machine.execMovR4A s
  | .movAR4 => Sys2Proof.Machine.execMovAR4 s
  | .clc => Sys2Proof.Machine.execClc s
  | .stc => Sys2Proof.Machine.execStc s
  | .ei => Sys2Proof.Machine.execEi s
  | .di => Sys2Proof.Machine.execDi s
  | .ret => Sys2Proof.Machine.execRet s
  | .reti => Sys2Proof.Machine.execReti s
  | .outPAA => Sys2Proof.Machine.execOutPAA s
  | .incA => Sys2Proof.Machine.execIncA s
  | .inAPM => Sys2Proof.Machine.execInAPM s
  | .inAPS => Sys2Proof.Machine.execInAPS s
  | .outPCA => Sys2Proof.Machine.execOutPCA s
  | .daa => Sys2Proof.Machine.execDaa s
  | .halt => Sys2Proof.Machine.execHalt s
  | .timerOn => Sys2Proof.Machine.execTimerOn s
  | .timerOff => Sys2Proof.Machine.execTimerOff s
  | .movATmrl => Sys2Proof.Machine.execMovATmrl s
  | .movATmrh => Sys2Proof.Machine.execMovATmrh s
  | .movTmrlA => Sys2Proof.Machine.execMovTmrlA s
  | .movTmrhA => Sys2Proof.Machine.execMovTmrhA s
  | .nop => Sys2Proof.Machine.execNop s
  | .decA => Sys2Proof.Machine.execDecA s
  | .addAImm x => Sys2Proof.Machine.execAddAImm x s
  | .subAImm x => Sys2Proof.Machine.execSubAImm x s
  | .andAImm x => Sys2Proof.Machine.execAndAImm x s
  | .xorAImm x => Sys2Proof.Machine.execXorAImm x s
  | .orAImm x => Sys2Proof.Machine.execOrAImm x s
  | .soundN n => Sys2Proof.Machine.execSoundN n s
  | .movR4Imm x => Sys2Proof.Machine.execMovR4Imm x s
  | .timerImm xx => Sys2Proof.Machine.execTimerImm xx s
  | .soundOne => Sys2Proof.Machine.execSoundOne s
  | .soundLoop => Sys2Proof.Machine.execSoundLoop s
  | .soundOff => Sys2Proof.Machine.execSoundOff s
  | .soundA => Sys2Proof.Machine.execSoundA s
  | .readR4A => Sys2Proof.Machine.execReadR4A s
  | .readfR4A => Sys2Proof.Machine.execReadfR4A s
  | .readMR0A => Sys2Proof.Machine.execReadMR0A s
  | .readfMR0A => Sys2Proof.Machine.execReadfMR0A s
  | .movR1R0Imm d1 d2 => Sys2Proof.Machine.execMovR1R0Imm d1 d2 s
  | .movR3R2Imm d1 d2 => Sys2Proof.Machine.execMovR3R2Imm d1 d2 s
  | .movAImm x => Sys2Proof.Machine.execMovAImm x s
  | .ja0 addr => Sys2Proof.Machine.execJa0 addr s
  | .ja1 addr => Sys2Proof.Machine.execJa1 addr s
  | .ja2 addr => Sys2Proof.Machine.execJa2 addr s
  | .ja3 addr => Sys2Proof.Machine.execJa3 addr s
  | .jnzR0 addr => Sys2Proof.Machine.execJnzR0 addr s
  | .jnzR1 addr => Sys2Proof.Machine.execJnzR1 addr s
  | .jzA addr => Sys2Proof.Machine.execJzA addr s
  | .jnzA addr => Sys2Proof.Machine.execJnzA addr s
  | .jc addr => Sys2Proof.Machine.execJc addr s
  | .jnc addr => Sys2Proof.Machine.execJnc addr s
  | .jtmr addr => Sys2Proof.Machine.execJtmr addr s
  | .jnzR4 addr => Sys2Proof.Machine.execJnzR4 addr s
  | .jmp addr => Sys2Proof.Machine.execJmp addr s
  | .call addr => Sys2Proof.Machine.execCall addr s

end Sys2Proof.Machine
end

