-- ==== Sys2Proof/Machine/Step.lean ====
section
/-! DEFINITION. One step: the boundary's events, then one interrupt entry or one instruction (R7, R276);
and how the host places an instruction. -/

namespace Sys2Proof.Machine

/-- One step of the machine. At the boundary the agents' events happen and a due wake-up ends HALT; a
core still in HALT does nothing; an acceptable interrupt is entered instead of the next fetch (R275,
R276); else the instruction at the program counter runs (log 11, 12, 37). -/
def step (s : State) : Host.Outcome State Fault Refusal :=
  if s.boundary.halted then .next s.boundary
  else if s.boundary.interruptAccepted then .next s.boundary.takeInterrupt
  else
    match s.boundary.fetch with
    | .ok i => exec i s.boundary
    | .error e => .fault (decodeFault e)

/-- The opcode-table number `w` of `nbits` bits in ROM at the program counter, in the current bank; the
byte after a one-byte row is 0 (log 5, log 31). -/
def State.withFetchWord (s : State) (nbits w : Nat) : State :=
  { s with
    rom := (s.rom.write (s.romIndex s.pc) (tableBytes nbits w).1).write
      (s.romIndex (s.npc 1#12)) (tableBytes nbits w).2 }

end Sys2Proof.Machine
end

