-- ==== Sys2Proof/Machine/Outputs.lean ====
section
/-! DEFINITION. What the sinks outside the core see: output pins, the LCD switch, the sound pins (R42,
R44, R188-R190, R303). Nothing here is read by an instruction. -/

namespace Sys2Proof.Machine

/-- The state of an output pin (R190). -/
inductive OutLevel where
  | low | high | floating
  deriving DecidableEq, Repr

/-- R188, R190: a latch bit of 0 drives low; of 1 drives high (CMOS) or floats (NMOS open drain). -/
def outLevel (latch openDrain : Bool) : OutLevel :=
  if latch then (if openDrain then .floating else .high) else .low

/-- Pin PA`i`, i = 0..3 (R41, R188). -/
def State.pinPA (s : State) (i : Nat) : OutLevel :=
  outLevel (s.pa.getLsbD i) (s.cfg.openDrain.getLsbD i)

/-- Pin PC2 (R42, R189). -/
def State.pinPC2 (s : State) : OutLevel := outLevel (s.portc.getLsbD 2) (s.cfg.openDrain.getLsbD 4)

/-- Pin PC3 (R42, R189). -/
def State.pinPC3 (s : State) : OutLevel := outLevel (s.portc.getLsbD 3) (s.cfg.openDrain.getLsbD 5)

/-- The display is switched on by `PORTC[1]` at the level `LCD_ON_LEVEL` (R42, D27, log 8). -/
def State.lcdOn (s : State) : Bool := s.portc.getLsbD 1 == s.cfg.lcdOnLevel

/-- A cell of the display data area, as the LCD driver reads it (R69, R70). -/
def State.displayCell (s : State) (i : BitVec 7) : Nibble := s.ramCell (256 + i.toNat)

/-- The state in which pins BZ and BZ-bar are both held high: no sound, or HALT (R250, R284, R301).
Otherwise the sound circuit drives them with data outside the spec (R245). -/
def State.bzHeldHigh (s : State) : Bool := !s.sndOn || s.halted

end Sys2Proof.Machine
end

