-- ==== Sys2Proof/Machine/Timing.lean ====
section
/-! DEFINITION. The timing figures the spec keeps (R272, R274, R317-R322). No architectural result uses
them (log 28). -/

namespace Sys2Proof

/-- R317: instruction cycles. Every two-byte instruction takes 2, taken branch or not; every one-byte
instruction takes 1, but for the four table reads, which take 2. -/
def Instr.cycles (i : Instr) : Nat :=
  match i with
  | .readR4A => 2
  | .readMR0A => 2
  | .readfR4A => 2
  | .readfMR0A => 2
  | .rrA => 1
  | .rlA => 1
  | .rrcA => 1
  | .rlcA => 1
  | .movAMem10 => 1
  | .movMem10A => 1
  | .movAMem32 => 1
  | .movMem32A => 1
  | .adcAMem => 1
  | .addAMem => 1
  | .sbcAMem => 1
  | .subAMem => 1
  | .incMem10 => 1
  | .decMem10 => 1
  | .incMem32 => 1
  | .decMem32 => 1
  | .incR0 => 1
  | .decR0 => 1
  | .incR1 => 1
  | .decR1 => 1
  | .incR2 => 1
  | .decR2 => 1
  | .incR3 => 1
  | .decR3 => 1
  | .incR4 => 1
  | .decR4 => 1
  | .andAMem => 1
  | .xorAMem => 1
  | .orAMem => 1
  | .andMemA => 1
  | .xorMemA => 1
  | .orMemA => 1
  | .movR0A => 1
  | .movAR0 => 1
  | .movR1A => 1
  | .movAR1 => 1
  | .movR2A => 1
  | .movAR2 => 1
  | .movR3A => 1
  | .movAR3 => 1
  | .movR4A => 1
  | .movAR4 => 1
  | .clc => 1
  | .stc => 1
  | .ei => 1
  | .di => 1
  | .ret => 1
  | .reti => 1
  | .outPAA => 1
  | .incA => 1
  | .inAPM => 1
  | .inAPS => 1
  | .outPCA => 1
  | .daa => 1
  | .halt => 2
  | .timerOn => 1
  | .timerOff => 1
  | .movATmrl => 1
  | .movATmrh => 1
  | .movTmrlA => 1
  | .movTmrhA => 1
  | .nop => 1
  | .decA => 1
  | .addAImm _ => 2
  | .subAImm _ => 2
  | .andAImm _ => 2
  | .xorAImm _ => 2
  | .orAImm _ => 2
  | .soundN _ => 2
  | .movR4Imm _ => 2
  | .timerImm _ => 2
  | .soundOne => 1
  | .soundLoop => 1
  | .soundOff => 1
  | .soundA => 1
  | .movR1R0Imm _ _ => 2
  | .movR3R2Imm _ _ => 2
  | .movAImm _ => 1
  | .ja0 _ => 2
  | .ja1 _ => 2
  | .ja2 _ => 2
  | .ja3 _ => 2
  | .jnzR0 _ => 2
  | .jnzR1 _ => 2
  | .jzA _ => 2
  | .jnzA _ => 2
  | .jc _ => 2
  | .jnc _ => 2
  | .jtmr _ => 2
  | .jnzR4 _ => 2
  | .jmp _ => 2
  | .call _ => 2

namespace Machine

/-- R318: system-clock periods in one instruction cycle. -/
def clocksPerCycle : Nat := 4

/-- R272: the frequency of the internal timer clock is the system clock over this; none for the
external source. -/
def timerDivisor (o : Options) : Option Nat :=
  match o.timerSrc with
  | .external => none
  | .internal n => some (2 ^ n.val)

/-- R274: the RTC output frequency in Hz, `256 / 2^n`. -/
def rtcHertz (o : Options) : Nat := 256 / 2 ^ o.rtcDiv.val

/-- R322: the sound circuit's clock is the system clock over this. -/
def soundDivisor (o : Options) : Nat := 2 ^ o.soundDiv.val

end Machine

end Sys2Proof
end

