-- ==== Sys2Proof/Safety.lean ====
section
/-! DEFINITION. The terms statements are written in: one piece of state, what a step leaves unchanged,
completing with an effect, well-formed states, final states. -/

namespace Sys2Proof.Machine

/-- One piece of state. Data memory is named cell by cell (BANK0 0..127, BANK1 128..255, DISP 256..383). -/
inductive Field where
  | acc | reg (r : Reg) | pc | pb | cf | tf | ie | rtcf | sub | stackPc | stackCf | tmr | ton | pa | portc
  | sndSel | sndMode | sndOn | halted | ramCell (k : Nat) | rom | pins | cfg | schedule | emitted | draws
  | epoch
  deriving DecidableEq, Repr

/-- The piece of state `f` is the same in `s` and `t`. A data-memory cell is compared by what it
reads as. -/
def Field.same (f : Field) (s t : State) : Prop :=
  match f with
  | .acc => t.acc = s.acc
  | .reg r => t.reg r = s.reg r
  | .pc => t.pc = s.pc
  | .pb => t.pb = s.pb
  | .cf => t.cf = s.cf
  | .tf => t.tf = s.tf
  | .ie => t.ie = s.ie
  | .rtcf => t.rtcf = s.rtcf
  | .sub => t.sub = s.sub
  | .stackPc => t.stackPc = s.stackPc
  | .stackCf => t.stackCf = s.stackCf
  | .tmr => t.tmr = s.tmr
  | .ton => t.ton = s.ton
  | .pa => t.pa = s.pa
  | .portc => t.portc = s.portc
  | .sndSel => t.sndSel = s.sndSel
  | .sndMode => t.sndMode = s.sndMode
  | .sndOn => t.sndOn = s.sndOn
  | .halted => t.halted = s.halted
  | .ramCell k => t.ramCell k = s.ramCell k
  | .rom => t.rom = s.rom
  | .pins => t.pins = s.pins
  | .cfg => t.cfg = s.cfg
  | .schedule => t.schedule = s.schedule
  | .emitted => t.emitted = s.emitted
  | .draws => t.draws = s.draws
  | .epoch => t.epoch = s.epoch

/-- Everything but the pieces listed is the same in `s` and `t`: the frame of a step from `s` to `t`. -/
def ChangesOnly (listed : List Field) (s t : State) : Prop :=
  ∀ f : Field, f ∉ listed → f.same s t

/-- `i` completes in `s`: a next state, in which `post` holds and only the pieces listed may differ. -/
def CompletesWith (i : Instr) (s : State) (listed : List Field) (post : State → Prop) : Prop :=
  ∃ t, exec i s = .next t ∧ post t ∧ ChangesOnly listed s t

/-- `i` is encoded by `bytes` and takes `cycles` instruction cycles. -/
def EncodedAs (i : Instr) (bytes : List Byte) (cycles : Nat) : Prop :=
  encode i = bytes ∧ i.cycles = cycles

/-- The two memories are in canonical form and list only addresses that exist (R60, R66). -/
abbrev State.wf (s : State) : Prop := s.ram.wf ramSize ∧ s.rom.wf romSize

/-- The outcome with a next state changed by `f`. -/
def mapNext (f : State → State) :
    Host.Outcome State Fault Refusal → Host.Outcome State Fault Refusal
  | .next t => .next (f t)
  | .fault r => .fault r
  | .refused r => .refused r

/-- The next state of an outcome, if there is one. -/
def nextState : Host.Outcome State Fault Refusal → Option State
  | .next t => some t
  | .fault _ => none
  | .refused _ => none

/-- `s` with the mask options no rule depends on taken from `o`: OUT_TYPE, SOUND_DIV, RTC_DIV, LCD_BIAS,
TMCLK_PULLHIGH (R4, R190). -/
def State.withInertOptions (s : State) (o : Options) : State :=
  { s with
    cfg := { s.cfg with
      openDrain := o.openDrain, soundDiv := o.soundDiv, rtcDiv := o.rtcDiv, lcdBias := o.lcdBias,
      tmclkPullHigh := o.tmclkPullHigh } }

/-- `s` with everything blanked that no instruction can read back: the latch of port A (R41), the sound
latches (R245) and the trace of output events (R10). -/
def State.withoutSinks (s : State) : State :=
  { s with pa := 0#4, sndSel := 0#4, sndMode := .one, sndOn := false, emitted := [] }

/-- Where a conditional branch goes (R196), in numbers: from `npc = (pc + 2) mod 4096`, if taken to the
address in the 2K half that holds `npc`, else to `npc`. -/
def branchGoesTo (s : State) (taken : Bool) (addr : HalfAddr) (t : State) : Prop :=
  t.pc.toNat =
    if taken then 2048 * ((s.pc.toNat + 2) % 4096 / 2048) + addr.toNat else (s.pc.toNat + 2) % 4096

/-- The 14-bit address of a table read (R25, R232), in numbers. -/
def tableAddress (s : State) (page low : Nat) : Nat :=
  s.pb.toNat * 4096 + page * 256 + s.acc.toNat * 16 + low

/-- The page of the incremented program counter of a one-byte instruction (R233), in numbers. -/
def pageAfter (s : State) : Nat := (s.pc.toNat + 1) % 4096 / 256

/-- An event that no rule lets end HALT (R285, R289): ticks, the end of a sound, the bank latch. -/
def Event.quietInHalt : Event → Bool
  | .internalTick => true
  | .tmclkRise => true
  | .soundEnd => true
  | .writePB _ => true
  | .rtc => false
  | .pins _ => false
  | .resLow => false

/-- `n` ticks of the timer's clock (R270). -/
def State.timerTicks (s : State) : Nat → State
  | 0 => s
  | n + 1 => (s.timerTicks n).timerTick

/-- `END_OF_RUN`, first suggested convention (D34): a JMP to its own address with interrupts
disabled. -/
def State.spinsForever (s : State) : Bool :=
  !s.ie && match s.fetch with
    | .ok i => i == .jmp s.pc
    | .error _ => false

/-- `END_OF_RUN`, second suggested convention (D34): halted with interrupts disabled. -/
def State.haltedForGood (s : State) : Bool := s.halted && !s.ie

end Sys2Proof.Machine
end

