-- ==== Sys2Proof/Certificates/Slice0/Obligations.lean ====
section
/-! DEFINITION. The statements for the provers. Free values and open parameters are state or constants
without a body, so each statement holds for every value of them. -/

open Sys2Proof Sys2Proof.Machine

/-- For every instruction, with every operand at every value its encoding admits, and whatever bytes
follow, the decoder reads that instruction from its encoding and leaves the bytes that follow.
(30_encoding.md section 5, R107, 30_encoding.md section 6, R111) -/
def Obligations.DecodeOfEncodeIsTheInstruction : Prop :=
  ∀ (i : Instr) (rest : List Byte), decode (encode i ++ rest) = .ok (i, rest)

/-- If the decoder reads an instruction from a list of bytes and leaves a rest, the list is the
encoding of that instruction followed by the rest: no bit of an encoding is ignored. That the
constant bits of a second byte are not ignored is the spec's decision D6, the model's choice (log
23). (30_encoding.md section 3, R103, 30_encoding.md section 5, R107) -/
def Obligations.DecodedBytesAreTheEncoding : Prop :=
  ∀ (bs rest : List Byte) (i : Instr), decode bs = .ok (i, rest) → bs = encode i ++ rest

/-- Two or more bytes are rejected as an unassigned opcode exactly when the first is 35H, as a bad
second byte exactly when 37H is not followed by 3EH or a first byte 40H..46H or 50H..6FH is
followed by a byte with a non-zero high nibble, and never as truncated. That the model rejects
them rests on the spec's decisions D5 and D6 (log 23). (30_encoding.md section 4, R104,
30_encoding.md section 4, R105) -/
def Obligations.BytesThatAreNoInstructionAreRejected : Prop :=
  ∀ (b1 b2 : Byte) (rest : List Byte),
    (decode (b1 :: b2 :: rest) = .error .unassignedOpcode ↔ b1 = 0x35#8) ∧
    (decode (b1 :: b2 :: rest) = .error .badSecondByte ↔
      (b1 = 0x37#8 ∧ b2 ≠ 0x3E#8) ∨
      (((0x40 ≤ b1.toNat ∧ b1.toNat ≤ 0x46) ∨ (0x50 ≤ b1.toNat ∧ b1.toNat ≤ 0x6F)) ∧
        0x10 ≤ b2.toNat)) ∧
    decode (b1 :: b2 :: rest) ≠ .error .truncated

/-- Every first byte of the opcode map but 35H, with every operand, decodes to the instruction the map
gives it. The bytes of SOUND n are the recovery C3, of RR, RRC, RLC and XOR A,XH the recovery C4
(log 33); the orders of bytes and address bits are the spec's decisions D1, D2 and D4 (log 30).
(30_encoding.md section 3, R103, 95_test_vectors.md section 2.1) -/
def Obligations.WrittenOutWordsDecode : Prop :=
  decode [0x00#8] = .ok (.rrA, []) ∧
    decode [0x01#8] = .ok (.rlA, []) ∧
    decode [0x02#8] = .ok (.rrcA, []) ∧
    decode [0x03#8] = .ok (.rlcA, []) ∧
    decode [0x04#8] = .ok (.movAMem10, []) ∧
    decode [0x05#8] = .ok (.movMem10A, []) ∧
    decode [0x06#8] = .ok (.movAMem32, []) ∧
    decode [0x07#8] = .ok (.movMem32A, []) ∧
    decode [0x08#8] = .ok (.adcAMem, []) ∧
    decode [0x09#8] = .ok (.addAMem, []) ∧
    decode [0x0A#8] = .ok (.sbcAMem, []) ∧
    decode [0x0B#8] = .ok (.subAMem, []) ∧
    decode [0x0C#8] = .ok (.incMem10, []) ∧
    decode [0x0D#8] = .ok (.decMem10, []) ∧
    decode [0x0E#8] = .ok (.incMem32, []) ∧
    decode [0x0F#8] = .ok (.decMem32, []) ∧
    decode [0x10#8] = .ok (.incR0, []) ∧
    decode [0x11#8] = .ok (.decR0, []) ∧
    decode [0x12#8] = .ok (.incR1, []) ∧
    decode [0x13#8] = .ok (.decR1, []) ∧
    decode [0x14#8] = .ok (.incR2, []) ∧
    decode [0x15#8] = .ok (.decR2, []) ∧
    decode [0x16#8] = .ok (.incR3, []) ∧
    decode [0x17#8] = .ok (.decR3, []) ∧
    decode [0x18#8] = .ok (.incR4, []) ∧
    decode [0x19#8] = .ok (.decR4, []) ∧
    decode [0x1A#8] = .ok (.andAMem, []) ∧
    decode [0x1B#8] = .ok (.xorAMem, []) ∧
    decode [0x1C#8] = .ok (.orAMem, []) ∧
    decode [0x1D#8] = .ok (.andMemA, []) ∧
    decode [0x1E#8] = .ok (.xorMemA, []) ∧
    decode [0x1F#8] = .ok (.orMemA, []) ∧
    decode [0x20#8] = .ok (.movR0A, []) ∧
    decode [0x21#8] = .ok (.movAR0, []) ∧
    decode [0x22#8] = .ok (.movR1A, []) ∧
    decode [0x23#8] = .ok (.movAR1, []) ∧
    decode [0x24#8] = .ok (.movR2A, []) ∧
    decode [0x25#8] = .ok (.movAR2, []) ∧
    decode [0x26#8] = .ok (.movR3A, []) ∧
    decode [0x27#8] = .ok (.movAR3, []) ∧
    decode [0x28#8] = .ok (.movR4A, []) ∧
    decode [0x29#8] = .ok (.movAR4, []) ∧
    decode [0x2A#8] = .ok (.clc, []) ∧
    decode [0x2B#8] = .ok (.stc, []) ∧
    decode [0x2C#8] = .ok (.ei, []) ∧
    decode [0x2D#8] = .ok (.di, []) ∧
    decode [0x2E#8] = .ok (.ret, []) ∧
    decode [0x2F#8] = .ok (.reti, []) ∧
    decode [0x30#8] = .ok (.outPAA, []) ∧
    decode [0x31#8] = .ok (.incA, []) ∧
    decode [0x32#8] = .ok (.inAPM, []) ∧
    decode [0x33#8] = .ok (.inAPS, []) ∧
    decode [0x34#8] = .ok (.outPCA, []) ∧
    decode [0x36#8] = .ok (.daa, []) ∧
    decode [0x38#8] = .ok (.timerOn, []) ∧
    decode [0x39#8] = .ok (.timerOff, []) ∧
    decode [0x3A#8] = .ok (.movATmrl, []) ∧
    decode [0x3B#8] = .ok (.movATmrh, []) ∧
    decode [0x3C#8] = .ok (.movTmrlA, []) ∧
    decode [0x3D#8] = .ok (.movTmrhA, []) ∧
    decode [0x3E#8] = .ok (.nop, []) ∧
    decode [0x3F#8] = .ok (.decA, []) ∧
    decode [0x48#8] = .ok (.soundOne, []) ∧
    decode [0x49#8] = .ok (.soundLoop, []) ∧
    decode [0x4A#8] = .ok (.soundOff, []) ∧
    decode [0x4B#8] = .ok (.soundA, []) ∧
    decode [0x4C#8] = .ok (.readR4A, []) ∧
    decode [0x4D#8] = .ok (.readfR4A, []) ∧
    decode [0x4E#8] = .ok (.readMR0A, []) ∧
    decode [0x4F#8] = .ok (.readfMR0A, []) ∧
    decode [0x37#8, 0x3E#8] = .ok (.halt, []) ∧
    (∀ x : Nibble,
      decode [0x40#8, 0x0#4 ++ x] = .ok (.addAImm x, []) ∧
      decode [0x41#8, 0x0#4 ++ x] = .ok (.subAImm x, []) ∧
      decode [0x42#8, 0x0#4 ++ x] = .ok (.andAImm x, []) ∧
      decode [0x43#8, 0x0#4 ++ x] = .ok (.xorAImm x, []) ∧
      decode [0x44#8, 0x0#4 ++ x] = .ok (.orAImm x, []) ∧
      decode [0x45#8, 0x0#4 ++ x] = .ok (.soundN x, []) ∧
      decode [0x46#8, 0x0#4 ++ x] = .ok (.movR4Imm x, []) ∧
      decode [0x7#4 ++ x] = .ok (.movAImm x, [])) ∧
    (∀ xx : Byte, decode [0x47#8, xx] = .ok (.timerImm xx, [])) ∧
    (∀ d1 d2 : Nibble,
      decode [0x5#4 ++ d1, 0x0#4 ++ d2] = .ok (.movR1R0Imm d1 d2, []) ∧
      decode [0x6#4 ++ d1, 0x0#4 ++ d2] = .ok (.movR3R2Imm d1 d2, [])) ∧
    (∀ (h : BitVec 3) (l : Byte),
      decode [0b10000#5 ++ h, l] = .ok (.ja0 (h ++ l), []) ∧
      decode [0b10001#5 ++ h, l] = .ok (.ja1 (h ++ l), []) ∧
      decode [0b10010#5 ++ h, l] = .ok (.ja2 (h ++ l), []) ∧
      decode [0b10011#5 ++ h, l] = .ok (.ja3 (h ++ l), []) ∧
      decode [0b10100#5 ++ h, l] = .ok (.jnzR0 (h ++ l), []) ∧
      decode [0b10101#5 ++ h, l] = .ok (.jnzR1 (h ++ l), []) ∧
      decode [0b10110#5 ++ h, l] = .ok (.jzA (h ++ l), []) ∧
      decode [0b10111#5 ++ h, l] = .ok (.jnzA (h ++ l), []) ∧
      decode [0b11000#5 ++ h, l] = .ok (.jc (h ++ l), []) ∧
      decode [0b11001#5 ++ h, l] = .ok (.jnc (h ++ l), []) ∧
      decode [0b11010#5 ++ h, l] = .ok (.jtmr (h ++ l), []) ∧
      decode [0b11011#5 ++ h, l] = .ok (.jnzR4 (h ++ l), [])) ∧
    (∀ (h : Nibble) (l : Byte),
      decode [0xE#4 ++ h, l] = .ok (.jmp (h ++ l), []) ∧
      decode [0xF#4 ++ h, l] = .ok (.call (h ++ l), []))

/-- When, after the events of the boundary, the core is not halted, no interrupt is accepted and the
bytes at the program counter decode to i, the step is exec of i in the state after the boundary.
Nothing else is added around exec. That one step is the boundary's batch of events and then one
exec is the model's own choice (log 11, log 37); the rules cited say what is fetched, when an
interrupt comes first and what is decoded. (20_memory.md section 1, R65, 60_exceptions.md section
6, R276, 30_encoding.md section 5, R107) -/
def Obligations.StepRunsTheDecodedInstruction : Prop :=
  ∀ (s : State) (i : Instr) (rest : List Byte),
    s.boundary.halted = false → s.boundary.interruptAccepted = false →
    decode [s.boundary.romRead s.boundary.pc, s.boundary.romRead (s.boundary.pc + 1#12)] =
      .ok (i, rest) →
    step s = exec i s.boundary

/-- When the core is not halted and no event falls at the boundary (the schedule is empty, or its head
batch is), the boundary only takes the empty batch off the schedule. The schedule is the model's
form of the environment (log 11). (00_scope.md section 5, R7, 60_exceptions.md section 4, R271) -/
def Obligations.BoundaryWithoutEventsChangesNothing : Prop :=
  ∀ s : State, s.halted = false → (s.schedule = [] ∨ s.schedule.head? = some []) →
    s.boundary = { s with schedule := s.schedule.tail }

/-- When the core is not halted, IE is set, SUB is none and RTCF or TF is set, the step is the
interrupt entry: STACK.pc and STACK.cf receive pc and CF, SUB becomes isr; with RTCF set RTCF is
cleared, TF kept and pc is 008H, else TF is cleared and pc is 004H; nothing else changes. That
entry sets SUB and leaves IE is the spec's decision D13, that nothing else is saved D14, the
earliest boundary D12 (log 12, log 13). (60_exceptions.md section 6, R275, 60_exceptions.md
section 6, R277, 60_exceptions.md section 6, R278) -/
def Obligations.InterruptEntryEffect : Prop :=
  ∀ s : State, s.boundary.halted = false → s.boundary.ie = true → s.boundary.sub = .none →
    (s.boundary.rtcf = true ∨ s.boundary.tf = true) →
    ∃ t, step s = .next t ∧ t.stackPc = s.boundary.pc ∧ t.stackCf = s.boundary.cf ∧ t.sub = .isr ∧
      t.rtcf = false ∧
      (if s.boundary.rtcf = true then t.pc = 0x008#12 ∧ t.tf = s.boundary.tf
        else t.pc = 0x004#12 ∧ t.tf = false) ∧
      ChangesOnly [.stackPc, .stackCf, .sub, .rtcf, .tf, .pc] s.boundary t

/-- Over any step whose batch holds no RES pulse: RTCF, once set, stays set unless the step is the RTC
interrupt entry; TF, once set, stays set unless the step is the TIMER interrupt entry or runs
JTMR. That nothing but these and reset clears TF is the spec's decision D21 (log 19).
(60_exceptions.md section 3, R265, 60_exceptions.md section 3, R266) -/
def Obligations.RequestsAreHeldUntilServed : Prop :=
  ∀ s t : State, step s = .next t →
    (∀ es, s.schedule.head? = some es → Event.resLow ∉ es) →
    (s.rtcf = true → t.rtcf = true ∨
      (s.boundary.interruptAccepted = true ∧ t.sub = .isr ∧ t.pc = 0x008#12)) ∧
    (s.tf = true → t.tf = true ∨
      (s.boundary.interruptAccepted = true ∧ t.sub = .isr ∧ t.pc = 0x004#12) ∨
      (s.boundary.halted = false ∧ s.boundary.interruptAccepted = false ∧
        ∃ a, s.boundary.fetch = .ok (.jtmr a)))

/-- When the core is still halted after the events of the boundary, the step is the boundary alone;
and a core that stays halted has no RTC request. That the latch and not the event ends HALT is the
spec's decision D23 (log 20); that a halted step is the boundary alone is the form of the model's
step (log 37). (60_exceptions.md section 8, R284, 60_exceptions.md section 8, R286,
60_exceptions.md section 8, R288) -/
def Obligations.HaltedCoreDoesNothing : Prop :=
  ∀ s : State, s.boundary.halted = true →
    step s = .next s.boundary ∧ s.boundary.rtcf = false

/-- A step never refuses. It stops with illegalOpcode exactly when a running core that accepts no
interrupt meets bytes that R104 or R105 exclude, and with callInIsr exactly when a running core
with SUB = isr meets a first byte F0H..FFH. Nothing else stops the machine. The faults are the
spec's decisions D5, D6, D16; UnwrittenState is replaced by values (log 24). (60_exceptions.md
section 1, R261, 30_encoding.md section 4, R104, 30_encoding.md section 4, R105,
47_subroutine_flag.md R211) -/
def Obligations.StepStopsOnlyAsListed : Prop :=
  ∀ s : State,
    (∀ r, step s ≠ .refused r) ∧
    (step s = .fault .illegalOpcode ↔
      s.boundary.halted = false ∧ s.boundary.interruptAccepted = false ∧
      codeWellFormed (s.boundary.romRead s.boundary.pc)
        (s.boundary.romRead (s.boundary.pc + 1#12)) = false) ∧
    (step s = .fault .callInIsr ↔
      s.boundary.halted = false ∧ s.boundary.sub = .isr ∧
      0xF0 ≤ (s.boundary.romRead s.boundary.pc).toNat)

/-- If data memory lists rising cell numbers below 384 and program memory rising addresses below
16384, then so they do after every step that answers a next state. (20_memory.md section 1, R60,
20_memory.md section 2, R66) -/
def Obligations.StepKeepsTheMemoriesCanonical : Prop :=
  ∀ s t : State, s.wf → step s = .next t → t.wf

/-- The invariant of the memories holds of the machine right after reset. (70_reset_and_hazards.md
section 1, R301) -/
def Obligations.ResetStateIsCanonical : Prop :=
  State.reset.wf

/-- Program memory is mask ROM and the options are constant for a run: every step that answers a next
state leaves both as they were, whatever events fall at its boundary. (20_memory.md section 1,
R60, 20_memory.md section 5, R79, 10_state.md section 9, R47) -/
def Obligations.StepNeverWritesRomOrOptions : Prop :=
  ∀ s t : State, step s = .next t → t.rom = s.rom ∧ t.cfg = s.cfg

/-- No instruction changes PB; and where the open parameter PB_WRITER names no writer, a state with PB
= 00 steps only to states with PB = 00. PB_WRITER is left open by the spec's D11 (log 9).
(10_state.md section 3, R29) -/
def Obligations.RomBankStaysZeroWithoutAWriter : Prop :=
  (∀ (i : Instr) (s t : State), exec i s = .next t → t.pb = s.pb) ∧
    (∀ s t : State, s.cfg.pbWriter = false → s.pb = 0#2 → step s = .next t → t.pb = 0#2)

/-- An instruction that is none of ADD, ADC, SUB, SBC A,[R1R0], ADD A,XH, SUB A,XH, DAA, RL, RLC, RR,
RRC, RETI, CLC, STC leaves CF unchanged. (10_state.md section 4, R31) -/
def Obligations.OnlyTheMarkedInstructionsWriteTheCarry : Prop :=
  ∀ (i : Instr) (s t : State), exec i s = .next t →
    i ∉ [.addAMem, .adcAMem, .subAMem, .sbcAMem, .daa, .rlA, .rlcA, .rrA, .rrcA, .reti, .clc, .stc] →
    (∀ x, i ≠ .addAImm x) → (∀ x, i ≠ .subAImm x) → t.cf = s.cf

/-- Among the instructions only JTMR changes TF, and clears it; only EI and DI change IE; none changes
RTCF or STACK.cf; only CALL, RET and RETI change SUB; only CALL changes STACK.pc. That no other
instruction touches TF is the spec's decision D21 (log 19), that CALL keeps STACK.cf D15 (log 14),
that RET and RETI keep IE D17 (log 15). (10_state.md section 4, R32-R35, 10_state.md section 5,
R38) -/
def Obligations.ControlStateWriters : Prop :=
  ∀ (i : Instr) (s t : State), exec i s = .next t →
    ((∀ a, i ≠ .jtmr a) → t.tf = s.tf) ∧ ((∃ a, i = .jtmr a) → t.tf = false) ∧
    (i ≠ .ei → i ≠ .di → t.ie = s.ie) ∧ t.rtcf = s.rtcf ∧ t.stackCf = s.stackCf ∧
    ((∀ a, i ≠ .call a) → t.stackPc = s.stackPc) ∧
    ((∀ a, i ≠ .call a) → i ≠ .ret → i ≠ .reti → t.sub = s.sub)

/-- PA by OUT PA,A; PORTC by OUT PC,A; TMR by TIMER XXH and the two nibble moves; TON by TIMER ON and
OFF; SND_MODE by SOUND ONE and LOOP; SND_SEL by SOUND n and A; SND_ON by these and SOUND OFF;
HALTED by HALT; ROM, options, pins, schedule and epoch by none. The three sound latches are the
spec's decision D29 (log 26); that HALT leaves SND_ON as it was is the model's choice, on which
the spec says no claim may depend (R252, log 26). (10_state.md section 4, R36, 10_state.md section
6, R40, 10_state.md section 7, R41-R45) -/
def Obligations.LatchAndDeviceWriters : Prop :=
  ∀ (i : Instr) (s t : State), exec i s = .next t →
    (i ≠ .outPAA → t.pa = s.pa) ∧ (i ≠ .outPCA → t.portc = s.portc) ∧
    ((∀ xx, i ≠ .timerImm xx) → i ≠ .movTmrlA → i ≠ .movTmrhA → t.tmr = s.tmr) ∧
    (i ≠ .timerOn → i ≠ .timerOff → t.ton = s.ton) ∧
    (i ≠ .soundOne → i ≠ .soundLoop → t.sndMode = s.sndMode) ∧
    ((∀ n, i ≠ .soundN n) → i ≠ .soundA → t.sndSel = s.sndSel) ∧
    ((∀ n, i ≠ .soundN n) → i ≠ .soundA → i ≠ .soundOff → t.sndOn = s.sndOn) ∧
    (i ≠ .halt → t.halted = s.halted) ∧
    t.rom = s.rom ∧ t.cfg = s.cfg ∧ t.pins = s.pins ∧ t.schedule = s.schedule ∧ t.epoch = s.epoch

/-- Whatever the instruction, every data-memory cell but the one R1R0 points to and the one R3R2
points to, in the bank selected by PORTC[0], reads as before; and only INC and DEC [R1R0] and
[R3R2], the stores, AND, OR and XOR [R1R0],A, READ MR0A and READF MR0A change any cell.
(20_memory.md section 2, R67, 20_memory.md section 2, R68, 20_memory.md section 4, R74) -/
def Obligations.StoresReachOnlyThePointedCell : Prop :=
  ∀ (i : Instr) (s t : State), exec i s = .next t →
    (∀ k, k ≠ s.cell s.ptr10 → k ≠ s.cell s.ptr32 → t.ramCell k = s.ramCell k) ∧
    (i ∉ [.incMem10, .decMem10, .incMem32, .decMem32, .movMem10A, .movMem32A, .andMemA, .orMemA,
      .xorMemA, .readMR0A, .readfMR0A] → ∀ k, t.ramCell k = s.ramCell k)

/-- ACC receives the sum of ACC, the data at R1R0 and, for ADC, CF, modulo 16; CF is 1 exactly when
the sum is 16 or more; pc advances by 1; nothing else changes. That CF receives the carry-out of
the 4-bit adder is the spec's decision D35 (log 25). (40_arithmetic.md R120, 40_arithmetic.md
R121, 40_arithmetic.md R122) -/
def Obligations.AdditionFromMemory : Prop :=
  ∀ s : State,
    CompletesWith .addAMem s [.acc, .cf, .pc] (fun t =>
      t.acc.toNat = (s.acc.toNat + (s.memRead s.ptr10).toNat) % 16 ∧
      t.cf = decide (16 ≤ s.acc.toNat + (s.memRead s.ptr10).toNat) ∧ t.pc = s.pc + 1#12) ∧
    CompletesWith .adcAMem s [.acc, .cf, .pc] (fun t =>
      t.acc.toNat = (s.acc.toNat + (s.memRead s.ptr10).toNat + s.cf.toNat) % 16 ∧
      t.cf = decide (16 ≤ s.acc.toNat + (s.memRead s.ptr10).toNat + s.cf.toNat) ∧
      t.pc = s.pc + 1#12)

/-- SUB: ACC receives ACC - M modulo 16 and CF is 1 exactly when ACC >= M. SBC: with b = 1 - CF, ACC
receives ACC - M - b modulo 16 and CF is 1 exactly when ACC >= M + b. pc advances by 1; nothing
else changes. That CF receives the carry-out of the 4-bit adder is the spec's decision D35 (log
25). (40_arithmetic.md R120, 40_arithmetic.md R123, 40_arithmetic.md R124) -/
def Obligations.SubtractionFromMemory : Prop :=
  ∀ s : State,
    CompletesWith .subAMem s [.acc, .cf, .pc] (fun t =>
      t.acc.toNat = (16 + s.acc.toNat - (s.memRead s.ptr10).toNat) % 16 ∧
      t.cf = decide ((s.memRead s.ptr10).toNat ≤ s.acc.toNat) ∧ t.pc = s.pc + 1#12) ∧
    CompletesWith .sbcAMem s [.acc, .cf, .pc] (fun t =>
      t.acc.toNat = (16 + s.acc.toNat - (s.memRead s.ptr10).toNat - (!s.cf).toNat) % 16 ∧
      t.cf = decide ((s.memRead s.ptr10).toNat + (!s.cf).toNat ≤ s.acc.toNat) ∧
      t.pc = s.pc + 1#12)

/-- ADD A,XH: ACC receives ACC + X modulo 16 and CF is 1 exactly when the sum is 16 or more. SUB A,XH:
ACC receives ACC - X modulo 16 and CF is 1 exactly when ACC >= X. pc advances by 2; nothing else
changes. That CF receives the carry-out of the 4-bit adder is the spec's decision D35 (log 25).
(40_arithmetic.md R120, 40_arithmetic.md R125, 40_arithmetic.md R126) -/
def Obligations.ImmediateArithmetic : Prop :=
  ∀ (s : State) (x : Nibble),
    CompletesWith (.addAImm x) s [.acc, .cf, .pc] (fun t =>
      t.acc.toNat = (s.acc.toNat + x.toNat) % 16 ∧ t.cf = decide (16 ≤ s.acc.toNat + x.toNat) ∧
      t.pc = s.pc + 2#12) ∧
    CompletesWith (.subAImm x) s [.acc, .cf, .pc] (fun t =>
      t.acc.toNat = (16 + s.acc.toNat - x.toNat) % 16 ∧ t.cf = decide (x.toNat ≤ s.acc.toNat) ∧
      t.pc = s.pc + 2#12)

/-- DAA is 36H, one byte, one cycle. If ACC > 9 or CF = 1, ACC receives ACC + 6 modulo 16 and CF
becomes 1; else both stay. pc advances by 1; nothing else changes. (R127) -/
def Obligations.DecimalAdjust : Prop :=
  ∀ s : State, EncodedAs .daa [0x36#8] 1 ∧
    CompletesWith .daa s [.acc, .cf, .pc] (fun t =>
      (if 9 < s.acc.toNat ∨ s.cf = true then t.acc.toNat = (s.acc.toNat + 6) % 16 ∧ t.cf = true
        else t.acc = s.acc ∧ t.cf = s.cf) ∧ t.pc = s.pc + 1#12)

/-- For decimal digits in ACC and at R1R0 and any carry in, ADC then DAA leaves the decimal digit of
the sum in ACC and the decimal carry in CF, and changes nothing else but pc. It rests on the carry
of D35 (log 25). (40_arithmetic.md R122, 40_arithmetic.md R127) -/
def Obligations.DecimalAdditionIsCorrect : Prop :=
  ∀ s : State, s.acc.toNat ≤ 9 → (s.memRead s.ptr10).toNat ≤ 9 →
    ∃ t u, exec .adcAMem s = .next t ∧ exec .daa t = .next u ∧
      u.acc.toNat = (s.acc.toNat + (s.memRead s.ptr10).toNat + s.cf.toNat) % 10 ∧
      u.cf = decide (10 ≤ s.acc.toNat + (s.memRead s.ptr10).toNat + s.cf.toNat) ∧
      ChangesOnly [.acc, .cf, .pc] s u

/-- If SUB runs on the low digits and SBC later runs with the carry SUB left, the two results are the
difference of the two-digit hexadecimal numbers modulo 256, and the last carry says that there was
no borrow. It rests on the carry of D35 (log 25). (40_arithmetic.md R124, 90_conflicts.md C9) -/
def Obligations.TwoDigitSubtractionChains : Prop :=
  ∀ s t s2 t2 : State, exec .subAMem s = .next t → s2.cf = t.cf → exec .sbcAMem s2 = .next t2 →
    16 * t2.acc.toNat + t.acc.toNat =
      (256 + (16 * s2.acc.toNat + s.acc.toNat) -
        (16 * (s2.memRead s2.ptr10).toNat + (s.memRead s.ptr10).toNat)) % 256 ∧
    t2.cf = decide (16 * (s2.memRead s2.ptr10).toNat + (s.memRead s.ptr10).toNat ≤
      16 * s2.acc.toNat + s.acc.toNat)

/-- 1AH, 1CH, 1BH, one byte, one cycle each: ACC receives the bitwise AND, OR, exclusive OR of ACC and
the data at R1R0; pc advances by 1; nothing else changes, no flag and no memory. (R131, R132,
R133) -/
def Obligations.LogicOnTheAccumulator : Prop :=
  ∀ s : State,
    EncodedAs .andAMem [0x1A#8] 1 ∧ EncodedAs .orAMem [0x1C#8] 1 ∧ EncodedAs .xorAMem [0x1B#8] 1 ∧
    CompletesWith .andAMem s [.acc, .pc] (fun t =>
      t.acc = s.acc &&& s.ramCell (s.cell s.ptr10) ∧ t.pc = s.pc + 1#12) ∧
    CompletesWith .orAMem s [.acc, .pc] (fun t =>
      t.acc = s.acc ||| s.ramCell (s.cell s.ptr10) ∧ t.pc = s.pc + 1#12) ∧
    CompletesWith .xorAMem s [.acc, .pc] (fun t =>
      t.acc = s.acc ^^^ s.ramCell (s.cell s.ptr10) ∧ t.pc = s.pc + 1#12)

/-- 1DH, 1FH, 1EH, one byte, one cycle each: the cell R1R0 points to, in the bank selected, receives
the bitwise AND, OR, exclusive OR of itself and ACC; pc advances by 1; ACC, every flag and every
other cell of memory are unchanged. (R134, R135, R136) -/
def Obligations.LogicOnDataMemory : Prop :=
  ∀ s : State,
    EncodedAs .andMemA [0x1D#8] 1 ∧ EncodedAs .orMemA [0x1F#8] 1 ∧ EncodedAs .xorMemA [0x1E#8] 1 ∧
    CompletesWith .andMemA s [.ramCell (s.cell s.ptr10), .pc] (fun t =>
      t.ramCell (s.cell s.ptr10) = s.ramCell (s.cell s.ptr10) &&& s.acc ∧ t.pc = s.pc + 1#12) ∧
    CompletesWith .orMemA s [.ramCell (s.cell s.ptr10), .pc] (fun t =>
      t.ramCell (s.cell s.ptr10) = s.ramCell (s.cell s.ptr10) ||| s.acc ∧ t.pc = s.pc + 1#12) ∧
    CompletesWith .xorMemA s [.ramCell (s.cell s.ptr10), .pc] (fun t =>
      t.ramCell (s.cell s.ptr10) = s.ramCell (s.cell s.ptr10) ^^^ s.acc ∧ t.pc = s.pc + 1#12)

/-- 42H, 44H, 43H followed by 0XH, two bytes, two cycles each: ACC receives the bitwise AND, OR,
exclusive OR of ACC and X; pc advances by 2; nothing else changes. A second byte with a non-zero
high nibble is no instruction: the spec's decision D6 (log 23). The opcode 43H of XOR is the
recovery C4 (log 33). (41_logic.md R137, 41_logic.md R138, 41_logic.md R139) -/
def Obligations.LogicWithImmediates : Prop :=
  ∀ (s : State) (x : Nibble),
    EncodedAs (.andAImm x) [0x42#8, 0x0#4 ++ x] 2 ∧ EncodedAs (.orAImm x) [0x44#8, 0x0#4 ++ x] 2 ∧
    EncodedAs (.xorAImm x) [0x43#8, 0x0#4 ++ x] 2 ∧
    (∀ b2 : Byte, 0x10 ≤ b2.toNat →
      decode [0x42#8, b2] = .error .badSecondByte ∧ decode [0x44#8, b2] = .error .badSecondByte ∧
      decode [0x43#8, b2] = .error .badSecondByte) ∧
    CompletesWith (.andAImm x) s [.acc, .pc] (fun t => t.acc = s.acc &&& x ∧ t.pc = s.pc + 2#12) ∧
    CompletesWith (.orAImm x) s [.acc, .pc] (fun t => t.acc = s.acc ||| x ∧ t.pc = s.pc + 2#12) ∧
    CompletesWith (.xorAImm x) s [.acc, .pc] (fun t => t.acc = s.acc ^^^ x ∧ t.pc = s.pc + 2#12)

/-- INC A 31H, DEC A 3FH, INC Rn 10H + 2n, DEC Rn 11H + 2n, one byte, one cycle each: the register
named receives itself plus 1, or minus 1 (plus 15), modulo 16; pc advances by 1; nothing else
changes: no flag, no other register of a pair. (R146, R147, R150, R151) -/
def Obligations.IncrementAndDecrementOfRegisters : Prop :=
  ∀ s : State,
    EncodedAs .incA [0x31#8] 1 ∧ EncodedAs .decA [0x3F#8] 1 ∧
    CompletesWith .incA s [.acc, .pc] (fun t =>
      t.acc.toNat = (s.acc.toNat + 1) % 16 ∧ t.pc = s.pc + 1#12) ∧
    CompletesWith .decA s [.acc, .pc] (fun t =>
      t.acc.toNat = (s.acc.toNat + 15) % 16 ∧ t.pc = s.pc + 1#12) ∧
    EncodedAs .incR0 [0x10#8] 1 ∧
    CompletesWith .incR0 s [.reg .r0, .pc] (fun t =>
      (t.reg .r0).toNat = ((s.reg .r0).toNat + 1) % 16 ∧ t.pc = s.pc + 1#12) ∧
    EncodedAs .incR1 [0x12#8] 1 ∧
    CompletesWith .incR1 s [.reg .r1, .pc] (fun t =>
      (t.reg .r1).toNat = ((s.reg .r1).toNat + 1) % 16 ∧ t.pc = s.pc + 1#12) ∧
    EncodedAs .incR2 [0x14#8] 1 ∧
    CompletesWith .incR2 s [.reg .r2, .pc] (fun t =>
      (t.reg .r2).toNat = ((s.reg .r2).toNat + 1) % 16 ∧ t.pc = s.pc + 1#12) ∧
    EncodedAs .incR3 [0x16#8] 1 ∧
    CompletesWith .incR3 s [.reg .r3, .pc] (fun t =>
      (t.reg .r3).toNat = ((s.reg .r3).toNat + 1) % 16 ∧ t.pc = s.pc + 1#12) ∧
    EncodedAs .incR4 [0x18#8] 1 ∧
    CompletesWith .incR4 s [.reg .r4, .pc] (fun t =>
      (t.reg .r4).toNat = ((s.reg .r4).toNat + 1) % 16 ∧ t.pc = s.pc + 1#12) ∧
    EncodedAs .decR0 [0x11#8] 1 ∧
    CompletesWith .decR0 s [.reg .r0, .pc] (fun t =>
      (t.reg .r0).toNat = ((s.reg .r0).toNat + 15) % 16 ∧ t.pc = s.pc + 1#12) ∧
    EncodedAs .decR1 [0x13#8] 1 ∧
    CompletesWith .decR1 s [.reg .r1, .pc] (fun t =>
      (t.reg .r1).toNat = ((s.reg .r1).toNat + 15) % 16 ∧ t.pc = s.pc + 1#12) ∧
    EncodedAs .decR2 [0x15#8] 1 ∧
    CompletesWith .decR2 s [.reg .r2, .pc] (fun t =>
      (t.reg .r2).toNat = ((s.reg .r2).toNat + 15) % 16 ∧ t.pc = s.pc + 1#12) ∧
    EncodedAs .decR3 [0x17#8] 1 ∧
    CompletesWith .decR3 s [.reg .r3, .pc] (fun t =>
      (t.reg .r3).toNat = ((s.reg .r3).toNat + 15) % 16 ∧ t.pc = s.pc + 1#12) ∧
    EncodedAs .decR4 [0x19#8] 1 ∧
    CompletesWith .decR4 s [.reg .r4, .pc] (fun t =>
      (t.reg .r4).toNat = ((s.reg .r4).toNat + 15) % 16 ∧ t.pc = s.pc + 1#12)

/-- 0CH, 0EH, 0DH, 0FH, one byte, one cycle each: the cell the pointer names, in the bank selected,
receives itself plus 1, or minus 1 (plus 15), modulo 16; pc advances by 1; ACC, every register,
every flag and every other cell are unchanged. (R148, R149, R152, R153) -/
def Obligations.IncrementAndDecrementOfDataMemory : Prop :=
  ∀ s : State,
    EncodedAs .incMem10 [0x0C#8] 1 ∧
    CompletesWith .incMem10 s [.ramCell (s.cell s.ptr10), .pc] (fun t =>
      (t.ramCell (s.cell s.ptr10)).toNat = ((s.ramCell (s.cell s.ptr10)).toNat + 1) % 16 ∧
      t.pc = s.pc + 1#12) ∧
    EncodedAs .incMem32 [0x0E#8] 1 ∧
    CompletesWith .incMem32 s [.ramCell (s.cell s.ptr32), .pc] (fun t =>
      (t.ramCell (s.cell s.ptr32)).toNat = ((s.ramCell (s.cell s.ptr32)).toNat + 1) % 16 ∧
      t.pc = s.pc + 1#12) ∧
    EncodedAs .decMem10 [0x0D#8] 1 ∧
    CompletesWith .decMem10 s [.ramCell (s.cell s.ptr10), .pc] (fun t =>
      (t.ramCell (s.cell s.ptr10)).toNat = ((s.ramCell (s.cell s.ptr10)).toNat + 15) % 16 ∧
      t.pc = s.pc + 1#12) ∧
    EncodedAs .decMem32 [0x0F#8] 1 ∧
    CompletesWith .decMem32 s [.ramCell (s.cell s.ptr32), .pc] (fun t =>
      (t.ramCell (s.cell s.ptr32)).toNat = ((s.ramCell (s.cell s.ptr32)).toNat + 15) % 16 ∧
      t.pc = s.pc + 1#12)

/-- MOV A,Rn 21H + 2n, MOV Rn,A 20H + 2n, one byte, one cycle each, n = 0..4: the destination receives
the source; pc advances by 1; nothing else changes. Writing R0 or R1 changes the pointer at once.
(R161, R162) -/
def Obligations.RegisterMoves : Prop :=
  ∀ s : State,
    EncodedAs .movAR0 [0x21#8] 1 ∧
    CompletesWith .movAR0 s [.acc, .pc] (fun t => t.acc = s.reg .r0 ∧ t.pc = s.pc + 1#12) ∧
    EncodedAs .movAR1 [0x23#8] 1 ∧
    CompletesWith .movAR1 s [.acc, .pc] (fun t => t.acc = s.reg .r1 ∧ t.pc = s.pc + 1#12) ∧
    EncodedAs .movAR2 [0x25#8] 1 ∧
    CompletesWith .movAR2 s [.acc, .pc] (fun t => t.acc = s.reg .r2 ∧ t.pc = s.pc + 1#12) ∧
    EncodedAs .movAR3 [0x27#8] 1 ∧
    CompletesWith .movAR3 s [.acc, .pc] (fun t => t.acc = s.reg .r3 ∧ t.pc = s.pc + 1#12) ∧
    EncodedAs .movAR4 [0x29#8] 1 ∧
    CompletesWith .movAR4 s [.acc, .pc] (fun t => t.acc = s.reg .r4 ∧ t.pc = s.pc + 1#12) ∧
    EncodedAs .movR0A [0x20#8] 1 ∧
    CompletesWith .movR0A s [.reg .r0, .pc] (fun t => t.reg .r0 = s.acc ∧ t.pc = s.pc + 1#12) ∧
    EncodedAs .movR1A [0x22#8] 1 ∧
    CompletesWith .movR1A s [.reg .r1, .pc] (fun t => t.reg .r1 = s.acc ∧ t.pc = s.pc + 1#12) ∧
    EncodedAs .movR2A [0x24#8] 1 ∧
    CompletesWith .movR2A s [.reg .r2, .pc] (fun t => t.reg .r2 = s.acc ∧ t.pc = s.pc + 1#12) ∧
    EncodedAs .movR3A [0x26#8] 1 ∧
    CompletesWith .movR3A s [.reg .r3, .pc] (fun t => t.reg .r3 = s.acc ∧ t.pc = s.pc + 1#12) ∧
    EncodedAs .movR4A [0x28#8] 1 ∧
    CompletesWith .movR4A s [.reg .r4, .pc] (fun t => t.reg .r4 = s.acc ∧ t.pc = s.pc + 1#12) ∧
    (∀ r v, (s.setReg r v).ptr10 = (s.setReg r v).reg .r1 ++ (s.setReg r v).reg .r0)

/-- 04H and 06H, one byte, one cycle each: ACC receives the cell the pointer names (for a data address
of 128 or more the display area whatever the bank, else BANK0 or BANK1 by PORTC[0]); pc advances
by 1; nothing else changes. (R163, R164) -/
def Obligations.LoadsFromDataMemory : Prop :=
  ∀ s : State,
    EncodedAs .movAMem10 [0x04#8] 1 ∧ EncodedAs .movAMem32 [0x06#8] 1 ∧
    CompletesWith .movAMem10 s [.acc, .pc] (fun t =>
      t.acc = s.ramCell (s.cell s.ptr10) ∧ t.pc = s.pc + 1#12) ∧
    CompletesWith .movAMem32 s [.acc, .pc] (fun t =>
      t.acc = s.ramCell (s.cell s.ptr32) ∧ t.pc = s.pc + 1#12) ∧
    (∀ a : Byte, s.cell a =
      if 128 ≤ a.toNat then 256 + (a.toNat - 128)
      else if s.portc.getLsbD 0 then 128 + a.toNat else a.toNat)

/-- 05H and 07H, one byte, one cycle each: the cell the pointer names, in the bank selected, receives
ACC; pc advances by 1; every other cell, the other bank's included, and everything else are
unchanged. A store never faults. (R165, R166) -/
def Obligations.StoresToDataMemory : Prop :=
  ∀ s : State,
    EncodedAs .movMem10A [0x05#8] 1 ∧ EncodedAs .movMem32A [0x07#8] 1 ∧
    CompletesWith .movMem10A s [.ramCell (s.cell s.ptr10), .pc] (fun t =>
      t.ramCell (s.cell s.ptr10) = s.acc ∧ t.pc = s.pc + 1#12) ∧
    CompletesWith .movMem32A s [.ramCell (s.cell s.ptr32), .pc] (fun t =>
      t.ramCell (s.cell s.ptr32) = s.acc ∧ t.pc = s.pc + 1#12)

/-- After a store to address a, reading address b gives the stored value if b is a and what b read
before if not; every address names a cell below 384; the two RAM banks share no cell, and an
address of 80H or more names the same cell in both. Bank numbering is the spec's decision D26 (log
30). (20_memory.md section 2, R67, 20_memory.md section 5, R76) -/
def Obligations.LoadAfterStore : Prop :=
  ∀ (s : State) (a b : Byte) (v : Nibble),
    (s.memWrite a v).memRead b = (if a = b then v else s.memRead b) ∧ s.cell a < 384 ∧
    (∀ p : Nibble, p.getLsbD 0 ≠ s.portc.getLsbD 0 →
      (State.cell { s with portc := p } a = s.cell b ↔ a = b ∧ 128 ≤ a.toNat))

/-- MOV A,XH is the one byte 70H + X, one cycle; MOV R4,XH is 46H, 0XH, two cycles; a second byte with
a non-zero high nibble is no instruction, the spec's decision D6 (log 23). The destination
receives X, pc advances by the length; nothing else changes. (43_datamove.md R167, 43_datamove.md
R170) -/
def Obligations.ImmediateMoves : Prop :=
  ∀ (s : State) (x : Nibble),
    EncodedAs (.movAImm x) [0x7#4 ++ x] 1 ∧ EncodedAs (.movR4Imm x) [0x46#8, 0x0#4 ++ x] 2 ∧
    (∀ b2 : Byte, 0x10 ≤ b2.toNat → decode [0x46#8, b2] = .error .badSecondByte) ∧
    CompletesWith (.movAImm x) s [.acc, .pc] (fun t => t.acc = x ∧ t.pc = s.pc + 1#12) ∧
    CompletesWith (.movR4Imm x) s [.reg .r4, .pc] (fun t =>
      t.reg .r4 = x ∧ t.pc = s.pc + 2#12)

/-- 5dH, 0dH and 6dH, 0dH, two bytes, two cycles: with PAIR_IMM_FIRST_NIBBLE low the first byte's
nibble goes to R0 (R2) and the second's to R1 (R3), with high the reverse; assembled for XXH under
either order the odd register receives XX[7:4] and the even one XX[3:0]. pc advances by 2; nothing
else changes. A second byte with a non-zero high nibble is no instruction: the spec's decision D6
(log 23). The order of the nibbles is left open by D3 (log 7). (43_datamove.md R168,
43_datamove.md R169, 30_encoding.md section 2, R95) -/
def Obligations.PairImmediateMoves : Prop :=
  ∀ (s : State) (d1 d2 : Nibble),
    EncodedAs (.movR1R0Imm d1 d2) [0x5#4 ++ d1, 0x0#4 ++ d2] 2 ∧
    EncodedAs (.movR3R2Imm d1 d2) [0x6#4 ++ d1, 0x0#4 ++ d2] 2 ∧
    (∀ b2 : Byte, 0x10 ≤ b2.toNat →
      decode [0x5#4 ++ d1, b2] = .error .badSecondByte ∧
      decode [0x6#4 ++ d1, b2] = .error .badSecondByte) ∧
    CompletesWith (.movR1R0Imm d1 d2) s [.reg .r1, .reg .r0, .pc] (fun t =>
      t.pc = s.pc + 2#12 ∧
      (s.cfg.pairImmFirst = .low → t.reg .r0 = d1 ∧ t.reg .r1 = d2) ∧
      (s.cfg.pairImmFirst = .high → t.reg .r1 = d1 ∧ t.reg .r0 = d2) ∧
      ∀ xx : Byte, pairNibbles s.cfg.pairImmFirst xx = (d1, d2) →
        t.reg .r1 = xx.extractLsb' 4 4 ∧ t.reg .r0 = xx.extractLsb' 0 4 ∧ t.ptr10 = xx) ∧
    CompletesWith (.movR3R2Imm d1 d2) s [.reg .r3, .reg .r2, .pc] (fun t =>
      t.pc = s.pc + 2#12 ∧
      (s.cfg.pairImmFirst = .low → t.reg .r2 = d1 ∧ t.reg .r3 = d2) ∧
      (s.cfg.pairImmFirst = .high → t.reg .r3 = d1 ∧ t.reg .r2 = d2) ∧
      ∀ xx : Byte, pairNibbles s.cfg.pairImmFirst xx = (d1, d2) →
        t.reg .r3 = xx.extractLsb' 4 4 ∧ t.reg .r2 = xx.extractLsb' 0 4 ∧ t.ptr32 = xx)

/-- 01H, 03H, 00H, 02H, one byte, one cycle each: the accumulator's bits move one place left or right,
the bit that enters is the one that leaves (RL, RR) or the old CF (RLC, RRC), and CF receives the
bit that leaves. pc advances by 1; nothing else changes. The opcodes 00H, 02H and 03H are the
recovery C4 (log 33). (44_rotate.md R176, 44_rotate.md R177, 44_rotate.md R178, 44_rotate.md R179) -/
def Obligations.RotatesMoveEveryBit : Prop :=
  ∀ s : State,
    EncodedAs .rlA [0x01#8] 1 ∧ EncodedAs .rlcA [0x03#8] 1 ∧ EncodedAs .rrA [0x00#8] 1 ∧
    EncodedAs .rrcA [0x02#8] 1 ∧
    CompletesWith .rlA s [.acc, .cf, .pc] (fun t =>
      (∀ n, n < 3 → t.acc.getLsbD (n + 1) = s.acc.getLsbD n) ∧
      t.acc.getLsbD 0 = s.acc.getLsbD 3 ∧ t.cf = s.acc.getLsbD 3 ∧ t.pc = s.pc + 1#12) ∧
    CompletesWith .rlcA s [.acc, .cf, .pc] (fun t =>
      (∀ n, n < 3 → t.acc.getLsbD (n + 1) = s.acc.getLsbD n) ∧
      t.acc.getLsbD 0 = s.cf ∧ t.cf = s.acc.getLsbD 3 ∧ t.pc = s.pc + 1#12) ∧
    CompletesWith .rrA s [.acc, .cf, .pc] (fun t =>
      (∀ n, n < 3 → t.acc.getLsbD n = s.acc.getLsbD (n + 1)) ∧
      t.acc.getLsbD 3 = s.acc.getLsbD 0 ∧ t.cf = s.acc.getLsbD 0 ∧ t.pc = s.pc + 1#12) ∧
    CompletesWith .rrcA s [.acc, .cf, .pc] (fun t =>
      (∀ n, n < 3 → t.acc.getLsbD n = s.acc.getLsbD (n + 1)) ∧
      t.acc.getLsbD 3 = s.cf ∧ t.cf = s.acc.getLsbD 0 ∧ t.pc = s.pc + 1#12)

/-- Bit i of ACC receives pin PSi, i = 0..3, or PMi, i = 0..2: a driven pin the level that drives it,
an undriven pin with pull-high 1. Bit 3 after IN A,PM and an undriven pin without pull-high are
free values: nothing is claimed of them (log 16, log 17). pc advances by 1; nothing else changes
but the model's draw counter. The bit correspondence is the spec's decision D20. (45_io.md R185,
45_io.md R186, 45_io.md R187) -/
def Obligations.InputPortsReadThePins : Prop :=
  ∀ s : State,
    CompletesWith .inAPS s [.acc, .pc, .draws] (fun t => t.pc = s.pc + 1#12 ∧
      ∀ i, i < 4 →
        (s.pins.driven.getLsbD i = true → t.acc.getLsbD i = s.pins.level.getLsbD i) ∧
        (s.pins.driven.getLsbD i = false → s.cfg.pullHigh.getLsbD i = true →
          t.acc.getLsbD i = true)) ∧
    CompletesWith .inAPM s [.acc, .pc, .draws] (fun t => t.pc = s.pc + 1#12 ∧
      ∀ i, i < 3 →
        (s.pins.driven.getLsbD (4 + i) = true →
          t.acc.getLsbD i = s.pins.level.getLsbD (4 + i)) ∧
        (s.pins.driven.getLsbD (4 + i) = false → s.cfg.pullHigh.getLsbD (4 + i) = true →
          t.acc.getLsbD i = true))

/-- 30H and 34H, one byte, one cycle each: the latch receives all four bits of ACC and the event is
emitted; a latch bit of 0 drives its pin low, of 1 high (CMOS) or floating (open drain); PORTC[1]
at LCD_ON_LEVEL switches the display on, PORTC[0] selects the bank of data addresses below 128 and
no other. pc advances by 1; nothing else changes, no data memory. (R188, R189) -/
def Obligations.OutputPortsLatchTheAccumulator : Prop :=
  ∀ s : State,
    EncodedAs .outPAA [0x30#8] 1 ∧ EncodedAs .outPCA [0x34#8] 1 ∧
    CompletesWith .outPAA s [.pa, .emitted, .pc] (fun t =>
      t.pa = s.acc ∧ t.emitted = .portA s.acc :: s.emitted ∧ t.pc = s.pc + 1#12 ∧
      ∀ i, i < 4 → t.pinPA i =
        if s.acc.getLsbD i = false then .low
        else if s.cfg.openDrain.getLsbD i = true then .floating else .high) ∧
    CompletesWith .outPCA s [.portc, .emitted, .pc] (fun t =>
      t.portc = s.acc ∧ t.emitted = .portC s.acc :: s.emitted ∧ t.pc = s.pc + 1#12 ∧
      t.pinPC3 = (if s.acc.getLsbD 3 = false then .low
        else if s.cfg.openDrain.getLsbD 5 = true then .floating else .high) ∧
      t.pinPC2 = (if s.acc.getLsbD 2 = false then .low
        else if s.cfg.openDrain.getLsbD 4 = true then .floating else .high) ∧
      t.lcdOn = (s.acc.getLsbD 1 == s.cfg.lcdOnLevel) ∧
      ∀ a : Byte, t.cell a =
        if 128 ≤ a.toNat then 256 + (a.toNat - 128)
        else if s.acc.getLsbD 0 then 128 + a.toNat else a.toNat)

/-- E0H + a[11:8], a[7:0], two bytes, two cycles: pc receives the 12-bit address; nothing else
changes. (R197) -/
def Obligations.UnconditionalJump : Prop :=
  ∀ (s : State) (a : CodeAddr),
    EncodedAs (.jmp a) [0xE#4 ++ a.extractLsb' 8 4, a.extractLsb' 0 8] 2 ∧
    CompletesWith (.jmp a) s [.pc] (fun t => t.pc = a)

/-- JC, JNC, JA0..JA3, JZ A, JNZ A, JNZ R0, R1, R4 and JTMR: with npc = (pc + 2) mod 4096, pc becomes
the address in the 2K half of npc if the condition holds, else npc. Nothing else changes, but that
JTMR clears TF whether or not it jumps. That the half is that of npc is the spec's decision D8
(log 21). (46_branch.md R196, 46_branch.md R198-R204) -/
def Obligations.ConditionalBranches : Prop :=
  ∀ (s : State) (a : HalfAddr),
    CompletesWith (.jc a) s [.pc] (branchGoesTo s s.cf a) ∧
    CompletesWith (.jnc a) s [.pc] (branchGoesTo s (!s.cf) a) ∧
    CompletesWith (.ja0 a) s [.pc] (branchGoesTo s (s.acc.getLsbD 0) a) ∧
    CompletesWith (.ja1 a) s [.pc] (branchGoesTo s (s.acc.getLsbD 1) a) ∧
    CompletesWith (.ja2 a) s [.pc] (branchGoesTo s (s.acc.getLsbD 2) a) ∧
    CompletesWith (.ja3 a) s [.pc] (branchGoesTo s (s.acc.getLsbD 3) a) ∧
    CompletesWith (.jzA a) s [.pc] (branchGoesTo s (decide (s.acc.toNat = 0)) a) ∧
    CompletesWith (.jnzA a) s [.pc] (branchGoesTo s (decide (s.acc.toNat ≠ 0)) a) ∧
    CompletesWith (.jnzR0 a) s [.pc] (branchGoesTo s (decide ((s.reg .r0).toNat ≠ 0)) a) ∧
    CompletesWith (.jnzR1 a) s [.pc] (branchGoesTo s (decide ((s.reg .r1).toNat ≠ 0)) a) ∧
    CompletesWith (.jnzR4 a) s [.pc] (branchGoesTo s (decide ((s.reg .r4).toNat ≠ 0)) a) ∧
    CompletesWith (.jtmr a) s [.pc, .tf] (fun t => branchGoesTo s s.tf a t ∧ t.tf = false)

/-- Outside an interrupt routine CALL writes STACK.pc with (pc + 2) mod 4096, sets SUB to call and
loads pc; CF, STACK.cf and everything else stay; a nested CALL overwrites STACK.pc. With SUB = isr
it stops with callInIsr. The nested case and the stop are the spec's decision D16, STACK.cf D15
(log 14). (47_subroutine_flag.md R211) -/
def Obligations.CallSavesTheReturnAddress : Prop :=
  ∀ (s : State) (a : CodeAddr),
    (s.sub ≠ .isr → CompletesWith (.call a) s [.stackPc, .sub, .pc] (fun t =>
      t.stackPc.toNat = (s.pc.toNat + 2) % 4096 ∧ t.sub = .call ∧ t.pc = a)) ∧
    (s.sub = .isr → exec (.call a) s = .fault .callInIsr)

/-- RET: pc receives STACK.pc and SUB becomes none; CF stays. RETI: as RET, and CF receives STACK.cf.
The stack register, IE and everything else stay. That IE stays and SUB becomes none is the spec's
decision D17; a return with nothing outstanding D18 (log 15). (47_subroutine_flag.md R212,
47_subroutine_flag.md R213, 60_exceptions.md section 7, R280) -/
def Obligations.ReturnsRestoreTheCounter : Prop :=
  ∀ s : State,
    CompletesWith .ret s [.pc, .sub] (fun t => t.pc = s.stackPc ∧ t.sub = .none) ∧
    CompletesWith .reti s [.pc, .sub, .cf] (fun t =>
      t.pc = s.stackPc ∧ t.sub = .none ∧ t.cf = s.stackCf)

/-- From any state in which an interrupt is accepted, its entry followed by RETI gives back the
interrupted state but for the stack register and the latch that was served. It rests on the spec's
decisions D13, D14 and D17 (log 13, log 15). (60_exceptions.md section 6, R279, 60_exceptions.md
section 7, R280) -/
def Obligations.InterruptsResumeExactly : Prop :=
  ∀ s : State, s.interruptAccepted = true →
    ∃ t, exec .reti s.takeInterrupt = .next t ∧
      ChangesOnly [.stackPc, .stackCf, if s.rtcf then .rtcf else .tf] s t

/-- 2AH, 2BH, 3EH, one byte, one cycle each: CLC clears CF, STC sets it, NOP changes nothing; pc
advances by 1; nothing else changes. Bytes 37H, 3EH are HALT, 00H is RR A (the recovery C4, log
33), FFH FFH is CALL FFFH. (47_subroutine_flag.md R214, 47_subroutine_flag.md R215,
47_subroutine_flag.md R218) -/
def Obligations.CarryInstructionsAndNop : Prop :=
  ∀ s : State,
    EncodedAs .clc [0x2A#8] 1 ∧ EncodedAs .stc [0x2B#8] 1 ∧ EncodedAs .nop [0x3E#8] 1 ∧
    CompletesWith .clc s [.cf, .pc] (fun t => t.cf = false ∧ t.pc = s.pc + 1#12) ∧
    CompletesWith .stc s [.cf, .pc] (fun t => t.cf = true ∧ t.pc = s.pc + 1#12) ∧
    CompletesWith .nop s [.pc] (fun t => t.pc = s.pc + 1#12) ∧
    decode [0x37#8, 0x3E#8] = .ok (.halt, []) ∧ decode [0x00#8] = .ok (.rrA, []) ∧
    decode [0xFF#8, 0xFF#8] = .ok (.call 0xFFF#12, [])

/-- EI sets IE, DI clears it; pc advances by 1 and nothing else changes, no request. After EI an
interrupt is accepted exactly when the core is not halted, SUB is none and a request is pending;
after DI none is. The earliest boundary is the spec's decision D12 (log 12).
(47_subroutine_flag.md R216, 47_subroutine_flag.md R217, 60_exceptions.md section 6, R275) -/
def Obligations.EnableAndDisableInterrupts : Prop :=
  ∀ s : State,
    CompletesWith .ei s [.ie, .pc] (fun t => t.ie = true ∧ t.pc = s.pc + 1#12 ∧
      (t.interruptAccepted = true ↔
        s.halted = false ∧ s.sub = .none ∧ (s.rtcf = true ∨ s.tf = true))) ∧
    CompletesWith .di s [.ie, .pc] (fun t => t.ie = false ∧ t.pc = s.pc + 1#12 ∧
      t.interruptAccepted = false)

/-- 38H and 39H, one byte, one cycle each: TON becomes 1 or 0; pc advances by 1; TMR, TF and
everything else stay. A tick has no effect while TON is 0. That TF stays is the spec's decision
D21 (log 19). (48_timer_tableread.md R226, 48_timer_tableread.md R227) -/
def Obligations.TimerStartAndStop : Prop :=
  ∀ s : State,
    EncodedAs .timerOn [0x38#8] 1 ∧ EncodedAs .timerOff [0x39#8] 1 ∧
    CompletesWith .timerOn s [.ton, .pc] (fun t => t.ton = true ∧ t.pc = s.pc + 1#12) ∧
    CompletesWith .timerOff s [.ton, .pc] (fun t =>
      t.ton = false ∧ t.pc = s.pc + 1#12 ∧ t.timerTick = t)

/-- 47H, XXH, two bytes, two cycles, every second byte legal: TMR receives XX, pc advances by 2,
nothing else changes. After n ticks a running timer holds TMR + n modulo 256, TF is set exactly if
it was or if TMR + n reached 256 (so TIMER XX overflows first on tick 256 - XX); nothing else
changes. A stopped timer ignores ticks. That TIMER XXH leaves TF is the spec's decision D21 (log
19). Which events are the ticks is stated in ClockEventsReachTheCounter and TicksDoNotEndHalt.
(48_timer_tableread.md R225, 60_exceptions.md section 4, R270) -/
def Obligations.TimerCountsUpAndOverflows : Prop :=
  ∀ (s : State) (xx : Byte),
    EncodedAs (.timerImm xx) [0x47#8, xx] 2 ∧ decode [0x47#8, xx] = .ok (.timerImm xx, []) ∧
    CompletesWith (.timerImm xx) s [.tmr, .pc] (fun t => t.tmr = xx ∧ t.pc = s.pc + 2#12) ∧
    (s.ton = true → ∀ n,
      (s.timerTicks n).tmr.toNat = (s.tmr.toNat + n) % 256 ∧
      ((s.timerTicks n).tf = true ↔ s.tf = true ∨ 256 ≤ s.tmr.toNat + n) ∧
      ChangesOnly [.tmr, .tf] s (s.timerTicks n)) ∧
    (s.ton = false → ∀ n, s.timerTicks n = s)

/-- ACC receives the low or high nibble of TMR when the timer is stopped or internally clocked; while
it counts an external clock ACC receives a free value, of which nothing is claimed. pc advances by
1; nothing else changes but the model's draw counter. The free value is the spec's decision D22
(log 18). (48_timer_tableread.md R228, 48_timer_tableread.md R229) -/
def Obligations.TimerReads : Prop :=
  ∀ s : State,
    CompletesWith .movATmrl s [.acc, .pc, .draws] (fun t => t.pc = s.pc + 1#12 ∧
      (s.ton = false ∨ s.cfg.timerSrc ≠ .external → t.acc.toNat = s.tmr.toNat % 16)) ∧
    CompletesWith .movATmrh s [.acc, .pc, .draws] (fun t => t.pc = s.pc + 1#12 ∧
      (s.ton = false ∨ s.cfg.timerSrc ≠ .external → t.acc.toNat = s.tmr.toNat / 16))

/-- 3CH and 3DH, one byte, one cycle each: the named nibble of TMR receives ACC, the other is kept; pc
advances by 1; TF and everything else stay, even if the new value is 00H. That TF stays is the
spec's decision D21 (log 19). (48_timer_tableread.md R230, 48_timer_tableread.md R231) -/
def Obligations.TimerNibbleWrites : Prop :=
  ∀ s : State,
    EncodedAs .movTmrlA [0x3C#8] 1 ∧ EncodedAs .movTmrhA [0x3D#8] 1 ∧
    CompletesWith .movTmrlA s [.tmr, .pc] (fun t =>
      t.tmr.toNat = 16 * (s.tmr.toNat / 16) + s.acc.toNat ∧ t.pc = s.pc + 1#12) ∧
    CompletesWith .movTmrhA s [.tmr, .pc] (fun t =>
      t.tmr.toNat = 16 * s.acc.toNat + s.tmr.toNat % 16 ∧ t.pc = s.pc + 1#12)

/-- The byte at PB : page : ACC : low, page that of the incremented counter (READ) or 15 (READF), low
the data at R1R0 (R4A forms) or R4 (MR0A forms); its high nibble goes to R4 or to the cell R1R0
points to, its low nibble to ACC; pc advances by 1; nothing else changes. The page is the spec's
decision D9, the bank D10 (log 22). (48_timer_tableread.md section 2, R232-R237) -/
def Obligations.TableReads : Prop :=
  ∀ s : State,
    CompletesWith .readR4A s [.reg .r4, .acc, .pc] (fun t => t.pc = s.pc + 1#12 ∧
      (s.romByte (tableAddress s (pageAfter s) (s.memRead s.ptr10).toNat)).toNat =
        16 * (t.reg .r4).toNat + t.acc.toNat) ∧
    CompletesWith .readMR0A s [.ramCell (s.cell s.ptr10), .acc, .pc] (fun t => t.pc = s.pc + 1#12 ∧
      (s.romByte (tableAddress s (pageAfter s) (s.reg .r4).toNat)).toNat =
        16 * (t.ramCell (s.cell s.ptr10)).toNat + t.acc.toNat) ∧
    CompletesWith .readfR4A s [.reg .r4, .acc, .pc] (fun t => t.pc = s.pc + 1#12 ∧
      (s.romByte (tableAddress s 15 (s.memRead s.ptr10).toNat)).toNat =
        16 * (t.reg .r4).toNat + t.acc.toNat) ∧
    CompletesWith .readfMR0A s [.ramCell (s.cell s.ptr10), .acc, .pc] (fun t =>
      t.pc = s.pc + 1#12 ∧
      (s.romByte (tableAddress s 15 (s.reg .r4).toNat)).toNat =
        16 * (t.ramCell (s.cell s.ptr10)).toNat + t.acc.toNat)

/-- 45H 0nH, 4BH, 48H, 49H, 4AH: SOUND n and SOUND A write SND_SEL and set SND_ON, SOUND ONE and LOOP
write SND_MODE, SOUND OFF clears SND_ON (and BZ is held high); each emits its event; pc advances
by the length; nothing else changes. That SOUND A takes its number from ACC is the spec's reading
of an unexplained clause (log 26), the latches and events D29 (log 26), the opcode 45H the
recovery C3 (log 33), that a second byte with a non-zero high nibble is no instruction D6 (log
23). (49_sound_misc.md R246, 49_sound_misc.md R247, 49_sound_misc.md R248, 49_sound_misc.md R249,
49_sound_misc.md R250) -/
def Obligations.SoundCommands : Prop :=
  ∀ (s : State) (n : Nibble),
    EncodedAs (.soundN n) [0x45#8, 0x0#4 ++ n] 2 ∧ EncodedAs .soundA [0x4B#8] 1 ∧
    EncodedAs .soundOne [0x48#8] 1 ∧ EncodedAs .soundLoop [0x49#8] 1 ∧
    EncodedAs .soundOff [0x4A#8] 1 ∧
    (∀ b2 : Byte, 0x10 ≤ b2.toNat → decode [0x45#8, b2] = .error .badSecondByte) ∧
    CompletesWith (.soundN n) s [.sndSel, .sndOn, .emitted, .pc] (fun t =>
      t.sndSel = n ∧ t.sndOn = true ∧ t.emitted = .soundStart n s.sndMode :: s.emitted ∧
      t.pc = s.pc + 2#12) ∧
    CompletesWith .soundA s [.sndSel, .sndOn, .emitted, .pc] (fun t =>
      t.sndSel = s.acc ∧ t.sndOn = true ∧ t.emitted = .soundStart s.acc s.sndMode :: s.emitted ∧
      t.pc = s.pc + 1#12) ∧
    CompletesWith .soundOne s [.sndMode, .emitted, .pc] (fun t =>
      t.sndMode = .one ∧ t.emitted = .soundMode .one :: s.emitted ∧ t.pc = s.pc + 1#12) ∧
    CompletesWith .soundLoop s [.sndMode, .emitted, .pc] (fun t =>
      t.sndMode = .loop ∧ t.emitted = .soundMode .loop :: s.emitted ∧ t.pc = s.pc + 1#12) ∧
    CompletesWith .soundOff s [.sndOn, .emitted, .pc] (fun t =>
      t.sndOn = false ∧ t.emitted = .soundOff :: s.emitted ∧ t.pc = s.pc + 1#12 ∧
      t.bzHeldHigh = true)

/-- HALTED becomes 1, pc advances by 2, nothing else changes; BZ is held high. That pc stands after
both bytes is the resolution of the conflict C5 (log 20); that SND_ON is left as it was is the
model's choice, on which the spec says no claim may depend (R252, log 26). (49_sound_misc.md R251,
60_exceptions.md section 8, R284) -/
def Obligations.HaltStopsTheCore : Prop :=
  ∀ s : State, EncodedAs .halt [0x37#8, 0x3E#8] 2 ∧
    CompletesWith .halt s [.halted, .pc] (fun t =>
      t.halted = true ∧ t.pc = s.pc + 2#12 ∧ t.bzHeldHigh = true)

/-- In HALT, whatever batch falls at the boundary (or none) but for a RES pulse, if RTCF is set or the
batch holds an RTC event: the core runs again at the address after HALT with RTCF 1; with IE = 1
and SUB = none the step enters the RTC interrupt, saving that address; with IE = 0, or within a
subroutine, the step runs the instruction there. With nothing but RTC events in the batch nothing
else changes at the boundary. The level wake-up is the spec's decision D23 (log 20).
(60_exceptions.md section 8, R286, 60_exceptions.md section 8, R288) -/
def Obligations.RtcEndsHalt : Prop :=
  ∀ s : State, s.halted = true →
    (∀ es, s.schedule.head? = some es → Event.resLow ∉ es) →
    (s.rtcf = true ∨ ∃ es, s.schedule.head? = some es ∧ Event.rtc ∈ es) →
    s.boundary.halted = false ∧ s.boundary.rtcf = true ∧ s.boundary.pc = s.pc ∧
    (s.ie = true → s.sub = .none → ∃ t, step s = .next t ∧ t.halted = false ∧
      t.stackPc = s.pc ∧ t.stackCf = s.cf ∧ t.sub = .isr ∧ t.pc = 0x008#12 ∧ t.rtcf = false ∧
      ChangesOnly [.stackPc, .stackCf, .sub, .pc, .rtcf] s.boundary t) ∧
    ((s.ie = false ∨ s.sub ≠ .none) → ∀ i, s.boundary.fetch = .ok i →
      step s = exec i s.boundary) ∧
    ((∀ es, s.schedule.head? = some es → ∀ e ∈ es, e = .rtc) →
      s.boundary = { s with halted := false, rtcf := true, schedule := s.schedule.tail })

/-- When the pins change while the core is halted, it is running afterwards exactly if some pin with
its WAKE_EN option set read 1 before and reads 0 after, whatever an undriven pin reads; while it
is not halted a change of the pins has no effect on it. No latch, flag or register changes, and no
entry address is used. That the level of an undriven pin without pull-high is drawn afresh before
and after the event is the model's choice (log 17). (60_exceptions.md section 8, R287) -/
def Obligations.PinFallsEndHalt : Prop :=
  ∀ (s : State) (p : Pins),
    ((s.applyEvent (.pins p)).halted = false ↔ s.halted = false ∨
      ∃ i, i < 7 ∧ s.cfg.wakeEn.getLsbD i = true ∧ s.pinLevel s.draws i = true ∧
        (s.applyEvent (.pins p)).pinLevel (s.applyEvent (.pins p)).draws i = false) ∧
    (s.applyEvent (.pins p)).pins = p ∧
    ChangesOnly [.pins, .draws, .halted] s (s.applyEvent (.pins p))

/-- A halted core without an RTC request, at whose boundary only ticks, ends of sounds and bank-latch
events fall, is halted after the step, and nothing but the schedule and the counter changes; if
the timer is internally clocked, or externally with TIMER_EXT_IN_HALT = stops, TMR and TF do not
change either; if externally with counts, each TMCLK edge is one tick. The parameter is open (D24,
log 10); that a sound does not end in HALT is the model's reading of R252 and R284 (log 26).
(60_exceptions.md section 8, R284, 60_exceptions.md section 8, R285, 60_exceptions.md section 8,
R289, 49_sound_misc.md R252) -/
def Obligations.TicksDoNotEndHalt : Prop :=
  ∀ (s : State) (es : List Event) (rest : List (List Event)), s.halted = true → s.rtcf = false →
    s.schedule = es :: rest → (∀ e ∈ es, e.quietInHalt = true) →
    ∃ t, step s = .next t ∧ t.halted = true ∧ t.pc = s.pc ∧ t.schedule = rest ∧
      ChangesOnly [.tmr, .tf, .schedule] s t ∧
      (s.cfg.timerSrc ≠ .external ∨ s.cfg.timerExtInHalt = .stops → t.tmr = s.tmr ∧ t.tf = s.tf) ∧
      (s.cfg.timerSrc = .external → s.cfg.timerExtInHalt = .counts →
        t.tmr = (s.timerTicks (es.count .tmclkRise)).tmr ∧
        t.tf = (s.timerTicks (es.count .tmclkRise)).tf)

/-- Of the state after reset, and of the state after a RES pulse from any state with any values u for
what the table omits: pc 000H, PB 00, CF, TF, TON, IE, SND_ON 0, SND_MODE ONE, PA 1111, PORTC[3:2]
11, the display off, BZ high, the PA pins high or floating, HALTED 0 and SUB none (these last two
the spec's D19, log 3). A RES event is such a pulse with free values u. (70_reset_and_hazards.md
section 1, R301, 70_reset_and_hazards.md section 1, R303) -/
def Obligations.ResetTableHolds : Prop :=
  (∀ (s : State) (u : Unspecified) (e : Nat) (t : State),
      (t = s.afterReset u e ∨ t = State.reset) →
      t.pc = 0#12 ∧ t.pb = 0#2 ∧ t.cf = false ∧ t.tf = false ∧ t.ton = false ∧ t.ie = false ∧
      t.sndOn = false ∧ t.sndMode = .one ∧ t.pa = 0xF#4 ∧ t.portc.getLsbD 3 = true ∧
      t.portc.getLsbD 2 = true ∧ t.lcdOn = false ∧ t.bzHeldHigh = true ∧
      (∀ i, i < 4 → t.pinPA i ≠ .low) ∧ t.halted = false ∧ t.sub = .none) ∧
    (∀ s : State, ∃ u e, s.applyEvent .resLow = s.afterReset u e)

/-- Changing the mask options that no rule depends on before a step, or after it, is the same: they
change no architectural state, no instruction result and no stop. That SOUND_DIV and RTC_DIV,
which set rates, change no step holds because the model leaves time out (log 28). (45_io.md R190,
00_scope.md section 4, R4) -/
def Obligations.InertOptionsDoNotMatter : Prop :=
  ∀ (s : State) (o : Options),
    step (s.withInertOptions o) = mapNext (·.withInertOptions o) (step s)

/-- Blanking what no instruction can read back (PA, SND_SEL, SND_MODE, SND_ON, the trace) before a
step changes nothing of the step's outcome but those same pieces. (49_sound_misc.md section 1,
R245, 45_io.md R185, 00_scope.md section 5, R7) -/
def Obligations.SinksAreNeverReadBack : Prop :=
  ∀ s : State, mapNext State.withoutSinks (step s.withoutSinks) = mapNext State.withoutSinks (step s)

/-- Every two-byte instruction takes 2 cycles, every one-byte instruction 1, but for the four table
reads, which take 2; every instruction has one or two bytes. (R317) -/
def Obligations.InstructionCycles : Prop :=
  ∀ i : Instr, (i.length = 1 ∨ i.length = 2) ∧
    i.cycles = if i.length = 2 ∨ i ∈ [.readR4A, .readMR0A, .readfR4A, .readfMR0A] then 2 else 1

/-- When the batch at the boundary of a running core holds ticks and RTC events, in any order and
number: with an internal TIMER_SRC each internal edge is one tick and the TMCLK edges none, with
the external one the reverse; RTCF is set afterwards exactly if it was or if the batch holds an
RTC event; nothing else changes but the schedule. The schedule is the model's form of the
environment (log 11). (60_exceptions.md section 4, R269, 60_exceptions.md section 4, R271,
60_exceptions.md section 5, R274) -/
def Obligations.ClockEventsReachTheCounter : Prop :=
  ∀ (s : State) (es : List Event) (rest : List (List Event)), s.halted = false →
    s.schedule = es :: rest → (∀ e ∈ es, e = .internalTick ∨ e = .tmclkRise ∨ e = .rtc) →
    (∀ n, s.cfg.timerSrc = .internal n →
      s.boundary.tmr = (s.timerTicks (es.count .internalTick)).tmr ∧
      s.boundary.tf = (s.timerTicks (es.count .internalTick)).tf) ∧
    (s.cfg.timerSrc = .external →
      s.boundary.tmr = (s.timerTicks (es.count .tmclkRise)).tmr ∧
      s.boundary.tf = (s.timerTicks (es.count .tmclkRise)).tf) ∧
    (s.boundary.rtcf = true ↔ s.rtcf = true ∨ Event.rtc ∈ es) ∧ s.boundary.schedule = rest ∧
    ChangesOnly [.tmr, .tf, .rtcf, .schedule] s s.boundary
end

