-- ==== Sys2Proof/Laws/State.lean ====
section
/-! SUPPORT. One lemma per field per update of the state. -/

namespace Sys2Proof.Machine

/-! `setReg` -/

@[simp] theorem setReg_acc (s : State) (r : Reg) (v : Nibble) : (s.setReg r v).acc = s.acc := rfl
@[simp] theorem setReg_regs (s : State) (r : Reg) (v : Nibble) : (s.setReg r v).regs = writeReg s.regs r v := rfl
@[simp] theorem setReg_pc (s : State) (r : Reg) (v : Nibble) : (s.setReg r v).pc = s.pc := rfl
@[simp] theorem setReg_pb (s : State) (r : Reg) (v : Nibble) : (s.setReg r v).pb = s.pb := rfl
@[simp] theorem setReg_cf (s : State) (r : Reg) (v : Nibble) : (s.setReg r v).cf = s.cf := rfl
@[simp] theorem setReg_tf (s : State) (r : Reg) (v : Nibble) : (s.setReg r v).tf = s.tf := rfl
@[simp] theorem setReg_ie (s : State) (r : Reg) (v : Nibble) : (s.setReg r v).ie = s.ie := rfl
@[simp] theorem setReg_rtcf (s : State) (r : Reg) (v : Nibble) : (s.setReg r v).rtcf = s.rtcf := rfl
@[simp] theorem setReg_sub (s : State) (r : Reg) (v : Nibble) : (s.setReg r v).sub = s.sub := rfl
@[simp] theorem setReg_stackPc (s : State) (r : Reg) (v : Nibble) : (s.setReg r v).stackPc = s.stackPc := rfl
@[simp] theorem setReg_stackCf (s : State) (r : Reg) (v : Nibble) : (s.setReg r v).stackCf = s.stackCf := rfl
@[simp] theorem setReg_tmr (s : State) (r : Reg) (v : Nibble) : (s.setReg r v).tmr = s.tmr := rfl
@[simp] theorem setReg_ton (s : State) (r : Reg) (v : Nibble) : (s.setReg r v).ton = s.ton := rfl
@[simp] theorem setReg_pa (s : State) (r : Reg) (v : Nibble) : (s.setReg r v).pa = s.pa := rfl
@[simp] theorem setReg_portc (s : State) (r : Reg) (v : Nibble) : (s.setReg r v).portc = s.portc := rfl
@[simp] theorem setReg_sndSel (s : State) (r : Reg) (v : Nibble) : (s.setReg r v).sndSel = s.sndSel := rfl
@[simp] theorem setReg_sndMode (s : State) (r : Reg) (v : Nibble) : (s.setReg r v).sndMode = s.sndMode := rfl
@[simp] theorem setReg_sndOn (s : State) (r : Reg) (v : Nibble) : (s.setReg r v).sndOn = s.sndOn := rfl
@[simp] theorem setReg_halted (s : State) (r : Reg) (v : Nibble) : (s.setReg r v).halted = s.halted := rfl
@[simp] theorem setReg_ram (s : State) (r : Reg) (v : Nibble) : (s.setReg r v).ram = s.ram := rfl
@[simp] theorem setReg_rom (s : State) (r : Reg) (v : Nibble) : (s.setReg r v).rom = s.rom := rfl
@[simp] theorem setReg_pins (s : State) (r : Reg) (v : Nibble) : (s.setReg r v).pins = s.pins := rfl
@[simp] theorem setReg_cfg (s : State) (r : Reg) (v : Nibble) : (s.setReg r v).cfg = s.cfg := rfl
@[simp] theorem setReg_schedule (s : State) (r : Reg) (v : Nibble) : (s.setReg r v).schedule = s.schedule := rfl
@[simp] theorem setReg_emitted (s : State) (r : Reg) (v : Nibble) : (s.setReg r v).emitted = s.emitted := rfl
@[simp] theorem setReg_draws (s : State) (r : Reg) (v : Nibble) : (s.setReg r v).draws = s.draws := rfl
@[simp] theorem setReg_epoch (s : State) (r : Reg) (v : Nibble) : (s.setReg r v).epoch = s.epoch := rfl
@[simp] theorem setReg_ramCell (s : State) (r : Reg) (v : Nibble) (k : Nat) : (s.setReg r v).ramCell k = s.ramCell k := rfl

/-! `setPair` -/

@[simp] theorem setPair_acc (s : State) (hi lo : Reg) (v : Byte) : (s.setPair hi lo v).acc = s.acc := rfl
@[simp] theorem setPair_regs (s : State) (hi lo : Reg) (v : Byte) : (s.setPair hi lo v).regs = writeReg (writeReg s.regs hi (v.extractLsb' 4 4)) lo (v.extractLsb' 0 4) := rfl
@[simp] theorem setPair_pc (s : State) (hi lo : Reg) (v : Byte) : (s.setPair hi lo v).pc = s.pc := rfl
@[simp] theorem setPair_pb (s : State) (hi lo : Reg) (v : Byte) : (s.setPair hi lo v).pb = s.pb := rfl
@[simp] theorem setPair_cf (s : State) (hi lo : Reg) (v : Byte) : (s.setPair hi lo v).cf = s.cf := rfl
@[simp] theorem setPair_tf (s : State) (hi lo : Reg) (v : Byte) : (s.setPair hi lo v).tf = s.tf := rfl
@[simp] theorem setPair_ie (s : State) (hi lo : Reg) (v : Byte) : (s.setPair hi lo v).ie = s.ie := rfl
@[simp] theorem setPair_rtcf (s : State) (hi lo : Reg) (v : Byte) : (s.setPair hi lo v).rtcf = s.rtcf := rfl
@[simp] theorem setPair_sub (s : State) (hi lo : Reg) (v : Byte) : (s.setPair hi lo v).sub = s.sub := rfl
@[simp] theorem setPair_stackPc (s : State) (hi lo : Reg) (v : Byte) : (s.setPair hi lo v).stackPc = s.stackPc := rfl
@[simp] theorem setPair_stackCf (s : State) (hi lo : Reg) (v : Byte) : (s.setPair hi lo v).stackCf = s.stackCf := rfl
@[simp] theorem setPair_tmr (s : State) (hi lo : Reg) (v : Byte) : (s.setPair hi lo v).tmr = s.tmr := rfl
@[simp] theorem setPair_ton (s : State) (hi lo : Reg) (v : Byte) : (s.setPair hi lo v).ton = s.ton := rfl
@[simp] theorem setPair_pa (s : State) (hi lo : Reg) (v : Byte) : (s.setPair hi lo v).pa = s.pa := rfl
@[simp] theorem setPair_portc (s : State) (hi lo : Reg) (v : Byte) : (s.setPair hi lo v).portc = s.portc := rfl
@[simp] theorem setPair_sndSel (s : State) (hi lo : Reg) (v : Byte) : (s.setPair hi lo v).sndSel = s.sndSel := rfl
@[simp] theorem setPair_sndMode (s : State) (hi lo : Reg) (v : Byte) : (s.setPair hi lo v).sndMode = s.sndMode := rfl
@[simp] theorem setPair_sndOn (s : State) (hi lo : Reg) (v : Byte) : (s.setPair hi lo v).sndOn = s.sndOn := rfl
@[simp] theorem setPair_halted (s : State) (hi lo : Reg) (v : Byte) : (s.setPair hi lo v).halted = s.halted := rfl
@[simp] theorem setPair_ram (s : State) (hi lo : Reg) (v : Byte) : (s.setPair hi lo v).ram = s.ram := rfl
@[simp] theorem setPair_rom (s : State) (hi lo : Reg) (v : Byte) : (s.setPair hi lo v).rom = s.rom := rfl
@[simp] theorem setPair_pins (s : State) (hi lo : Reg) (v : Byte) : (s.setPair hi lo v).pins = s.pins := rfl
@[simp] theorem setPair_cfg (s : State) (hi lo : Reg) (v : Byte) : (s.setPair hi lo v).cfg = s.cfg := rfl
@[simp] theorem setPair_schedule (s : State) (hi lo : Reg) (v : Byte) : (s.setPair hi lo v).schedule = s.schedule := rfl
@[simp] theorem setPair_emitted (s : State) (hi lo : Reg) (v : Byte) : (s.setPair hi lo v).emitted = s.emitted := rfl
@[simp] theorem setPair_draws (s : State) (hi lo : Reg) (v : Byte) : (s.setPair hi lo v).draws = s.draws := rfl
@[simp] theorem setPair_epoch (s : State) (hi lo : Reg) (v : Byte) : (s.setPair hi lo v).epoch = s.epoch := rfl
@[simp] theorem setPair_ramCell (s : State) (hi lo : Reg) (v : Byte) (k : Nat) : (s.setPair hi lo v).ramCell k = s.ramCell k := rfl

/-! `setAcc` -/

@[simp] theorem setAcc_acc (s : State) (v : Nibble) : (s.setAcc v).acc = v := rfl
@[simp] theorem setAcc_regs (s : State) (v : Nibble) : (s.setAcc v).regs = s.regs := rfl
@[simp] theorem setAcc_pc (s : State) (v : Nibble) : (s.setAcc v).pc = s.pc := rfl
@[simp] theorem setAcc_pb (s : State) (v : Nibble) : (s.setAcc v).pb = s.pb := rfl
@[simp] theorem setAcc_cf (s : State) (v : Nibble) : (s.setAcc v).cf = s.cf := rfl
@[simp] theorem setAcc_tf (s : State) (v : Nibble) : (s.setAcc v).tf = s.tf := rfl
@[simp] theorem setAcc_ie (s : State) (v : Nibble) : (s.setAcc v).ie = s.ie := rfl
@[simp] theorem setAcc_rtcf (s : State) (v : Nibble) : (s.setAcc v).rtcf = s.rtcf := rfl
@[simp] theorem setAcc_sub (s : State) (v : Nibble) : (s.setAcc v).sub = s.sub := rfl
@[simp] theorem setAcc_stackPc (s : State) (v : Nibble) : (s.setAcc v).stackPc = s.stackPc := rfl
@[simp] theorem setAcc_stackCf (s : State) (v : Nibble) : (s.setAcc v).stackCf = s.stackCf := rfl
@[simp] theorem setAcc_tmr (s : State) (v : Nibble) : (s.setAcc v).tmr = s.tmr := rfl
@[simp] theorem setAcc_ton (s : State) (v : Nibble) : (s.setAcc v).ton = s.ton := rfl
@[simp] theorem setAcc_pa (s : State) (v : Nibble) : (s.setAcc v).pa = s.pa := rfl
@[simp] theorem setAcc_portc (s : State) (v : Nibble) : (s.setAcc v).portc = s.portc := rfl
@[simp] theorem setAcc_sndSel (s : State) (v : Nibble) : (s.setAcc v).sndSel = s.sndSel := rfl
@[simp] theorem setAcc_sndMode (s : State) (v : Nibble) : (s.setAcc v).sndMode = s.sndMode := rfl
@[simp] theorem setAcc_sndOn (s : State) (v : Nibble) : (s.setAcc v).sndOn = s.sndOn := rfl
@[simp] theorem setAcc_halted (s : State) (v : Nibble) : (s.setAcc v).halted = s.halted := rfl
@[simp] theorem setAcc_ram (s : State) (v : Nibble) : (s.setAcc v).ram = s.ram := rfl
@[simp] theorem setAcc_rom (s : State) (v : Nibble) : (s.setAcc v).rom = s.rom := rfl
@[simp] theorem setAcc_pins (s : State) (v : Nibble) : (s.setAcc v).pins = s.pins := rfl
@[simp] theorem setAcc_cfg (s : State) (v : Nibble) : (s.setAcc v).cfg = s.cfg := rfl
@[simp] theorem setAcc_schedule (s : State) (v : Nibble) : (s.setAcc v).schedule = s.schedule := rfl
@[simp] theorem setAcc_emitted (s : State) (v : Nibble) : (s.setAcc v).emitted = s.emitted := rfl
@[simp] theorem setAcc_draws (s : State) (v : Nibble) : (s.setAcc v).draws = s.draws := rfl
@[simp] theorem setAcc_epoch (s : State) (v : Nibble) : (s.setAcc v).epoch = s.epoch := rfl
@[simp] theorem setAcc_reg (s : State) (v : Nibble) (q : Reg) : (s.setAcc v).reg q = s.reg q := rfl
@[simp] theorem setAcc_ramCell (s : State) (v : Nibble) (k : Nat) : (s.setAcc v).ramCell k = s.ramCell k := rfl

/-! `setCf` -/

@[simp] theorem setCf_acc (s : State) (b : Bool) : (s.setCf b).acc = s.acc := rfl
@[simp] theorem setCf_regs (s : State) (b : Bool) : (s.setCf b).regs = s.regs := rfl
@[simp] theorem setCf_pc (s : State) (b : Bool) : (s.setCf b).pc = s.pc := rfl
@[simp] theorem setCf_pb (s : State) (b : Bool) : (s.setCf b).pb = s.pb := rfl
@[simp] theorem setCf_cf (s : State) (b : Bool) : (s.setCf b).cf = b := rfl
@[simp] theorem setCf_tf (s : State) (b : Bool) : (s.setCf b).tf = s.tf := rfl
@[simp] theorem setCf_ie (s : State) (b : Bool) : (s.setCf b).ie = s.ie := rfl
@[simp] theorem setCf_rtcf (s : State) (b : Bool) : (s.setCf b).rtcf = s.rtcf := rfl
@[simp] theorem setCf_sub (s : State) (b : Bool) : (s.setCf b).sub = s.sub := rfl
@[simp] theorem setCf_stackPc (s : State) (b : Bool) : (s.setCf b).stackPc = s.stackPc := rfl
@[simp] theorem setCf_stackCf (s : State) (b : Bool) : (s.setCf b).stackCf = s.stackCf := rfl
@[simp] theorem setCf_tmr (s : State) (b : Bool) : (s.setCf b).tmr = s.tmr := rfl
@[simp] theorem setCf_ton (s : State) (b : Bool) : (s.setCf b).ton = s.ton := rfl
@[simp] theorem setCf_pa (s : State) (b : Bool) : (s.setCf b).pa = s.pa := rfl
@[simp] theorem setCf_portc (s : State) (b : Bool) : (s.setCf b).portc = s.portc := rfl
@[simp] theorem setCf_sndSel (s : State) (b : Bool) : (s.setCf b).sndSel = s.sndSel := rfl
@[simp] theorem setCf_sndMode (s : State) (b : Bool) : (s.setCf b).sndMode = s.sndMode := rfl
@[simp] theorem setCf_sndOn (s : State) (b : Bool) : (s.setCf b).sndOn = s.sndOn := rfl
@[simp] theorem setCf_halted (s : State) (b : Bool) : (s.setCf b).halted = s.halted := rfl
@[simp] theorem setCf_ram (s : State) (b : Bool) : (s.setCf b).ram = s.ram := rfl
@[simp] theorem setCf_rom (s : State) (b : Bool) : (s.setCf b).rom = s.rom := rfl
@[simp] theorem setCf_pins (s : State) (b : Bool) : (s.setCf b).pins = s.pins := rfl
@[simp] theorem setCf_cfg (s : State) (b : Bool) : (s.setCf b).cfg = s.cfg := rfl
@[simp] theorem setCf_schedule (s : State) (b : Bool) : (s.setCf b).schedule = s.schedule := rfl
@[simp] theorem setCf_emitted (s : State) (b : Bool) : (s.setCf b).emitted = s.emitted := rfl
@[simp] theorem setCf_draws (s : State) (b : Bool) : (s.setCf b).draws = s.draws := rfl
@[simp] theorem setCf_epoch (s : State) (b : Bool) : (s.setCf b).epoch = s.epoch := rfl
@[simp] theorem setCf_reg (s : State) (b : Bool) (q : Reg) : (s.setCf b).reg q = s.reg q := rfl
@[simp] theorem setCf_ramCell (s : State) (b : Bool) (k : Nat) : (s.setCf b).ramCell k = s.ramCell k := rfl

/-! `setAlu` -/

@[simp] theorem setAlu_acc (s : State) (o : AluOut) : (s.setAlu o).acc = o.value := rfl
@[simp] theorem setAlu_regs (s : State) (o : AluOut) : (s.setAlu o).regs = s.regs := rfl
@[simp] theorem setAlu_pc (s : State) (o : AluOut) : (s.setAlu o).pc = s.pc := rfl
@[simp] theorem setAlu_pb (s : State) (o : AluOut) : (s.setAlu o).pb = s.pb := rfl
@[simp] theorem setAlu_cf (s : State) (o : AluOut) : (s.setAlu o).cf = o.carry := rfl
@[simp] theorem setAlu_tf (s : State) (o : AluOut) : (s.setAlu o).tf = s.tf := rfl
@[simp] theorem setAlu_ie (s : State) (o : AluOut) : (s.setAlu o).ie = s.ie := rfl
@[simp] theorem setAlu_rtcf (s : State) (o : AluOut) : (s.setAlu o).rtcf = s.rtcf := rfl
@[simp] theorem setAlu_sub (s : State) (o : AluOut) : (s.setAlu o).sub = s.sub := rfl
@[simp] theorem setAlu_stackPc (s : State) (o : AluOut) : (s.setAlu o).stackPc = s.stackPc := rfl
@[simp] theorem setAlu_stackCf (s : State) (o : AluOut) : (s.setAlu o).stackCf = s.stackCf := rfl
@[simp] theorem setAlu_tmr (s : State) (o : AluOut) : (s.setAlu o).tmr = s.tmr := rfl
@[simp] theorem setAlu_ton (s : State) (o : AluOut) : (s.setAlu o).ton = s.ton := rfl
@[simp] theorem setAlu_pa (s : State) (o : AluOut) : (s.setAlu o).pa = s.pa := rfl
@[simp] theorem setAlu_portc (s : State) (o : AluOut) : (s.setAlu o).portc = s.portc := rfl
@[simp] theorem setAlu_sndSel (s : State) (o : AluOut) : (s.setAlu o).sndSel = s.sndSel := rfl
@[simp] theorem setAlu_sndMode (s : State) (o : AluOut) : (s.setAlu o).sndMode = s.sndMode := rfl
@[simp] theorem setAlu_sndOn (s : State) (o : AluOut) : (s.setAlu o).sndOn = s.sndOn := rfl
@[simp] theorem setAlu_halted (s : State) (o : AluOut) : (s.setAlu o).halted = s.halted := rfl
@[simp] theorem setAlu_ram (s : State) (o : AluOut) : (s.setAlu o).ram = s.ram := rfl
@[simp] theorem setAlu_rom (s : State) (o : AluOut) : (s.setAlu o).rom = s.rom := rfl
@[simp] theorem setAlu_pins (s : State) (o : AluOut) : (s.setAlu o).pins = s.pins := rfl
@[simp] theorem setAlu_cfg (s : State) (o : AluOut) : (s.setAlu o).cfg = s.cfg := rfl
@[simp] theorem setAlu_schedule (s : State) (o : AluOut) : (s.setAlu o).schedule = s.schedule := rfl
@[simp] theorem setAlu_emitted (s : State) (o : AluOut) : (s.setAlu o).emitted = s.emitted := rfl
@[simp] theorem setAlu_draws (s : State) (o : AluOut) : (s.setAlu o).draws = s.draws := rfl
@[simp] theorem setAlu_epoch (s : State) (o : AluOut) : (s.setAlu o).epoch = s.epoch := rfl
@[simp] theorem setAlu_reg (s : State) (o : AluOut) (q : Reg) : (s.setAlu o).reg q = s.reg q := rfl
@[simp] theorem setAlu_ramCell (s : State) (o : AluOut) (k : Nat) : (s.setAlu o).ramCell k = s.ramCell k := rfl

/-! `setTf` -/

@[simp] theorem setTf_acc (s : State) (b : Bool) : (s.setTf b).acc = s.acc := rfl
@[simp] theorem setTf_regs (s : State) (b : Bool) : (s.setTf b).regs = s.regs := rfl
@[simp] theorem setTf_pc (s : State) (b : Bool) : (s.setTf b).pc = s.pc := rfl
@[simp] theorem setTf_pb (s : State) (b : Bool) : (s.setTf b).pb = s.pb := rfl
@[simp] theorem setTf_cf (s : State) (b : Bool) : (s.setTf b).cf = s.cf := rfl
@[simp] theorem setTf_tf (s : State) (b : Bool) : (s.setTf b).tf = b := rfl
@[simp] theorem setTf_ie (s : State) (b : Bool) : (s.setTf b).ie = s.ie := rfl
@[simp] theorem setTf_rtcf (s : State) (b : Bool) : (s.setTf b).rtcf = s.rtcf := rfl
@[simp] theorem setTf_sub (s : State) (b : Bool) : (s.setTf b).sub = s.sub := rfl
@[simp] theorem setTf_stackPc (s : State) (b : Bool) : (s.setTf b).stackPc = s.stackPc := rfl
@[simp] theorem setTf_stackCf (s : State) (b : Bool) : (s.setTf b).stackCf = s.stackCf := rfl
@[simp] theorem setTf_tmr (s : State) (b : Bool) : (s.setTf b).tmr = s.tmr := rfl
@[simp] theorem setTf_ton (s : State) (b : Bool) : (s.setTf b).ton = s.ton := rfl
@[simp] theorem setTf_pa (s : State) (b : Bool) : (s.setTf b).pa = s.pa := rfl
@[simp] theorem setTf_portc (s : State) (b : Bool) : (s.setTf b).portc = s.portc := rfl
@[simp] theorem setTf_sndSel (s : State) (b : Bool) : (s.setTf b).sndSel = s.sndSel := rfl
@[simp] theorem setTf_sndMode (s : State) (b : Bool) : (s.setTf b).sndMode = s.sndMode := rfl
@[simp] theorem setTf_sndOn (s : State) (b : Bool) : (s.setTf b).sndOn = s.sndOn := rfl
@[simp] theorem setTf_halted (s : State) (b : Bool) : (s.setTf b).halted = s.halted := rfl
@[simp] theorem setTf_ram (s : State) (b : Bool) : (s.setTf b).ram = s.ram := rfl
@[simp] theorem setTf_rom (s : State) (b : Bool) : (s.setTf b).rom = s.rom := rfl
@[simp] theorem setTf_pins (s : State) (b : Bool) : (s.setTf b).pins = s.pins := rfl
@[simp] theorem setTf_cfg (s : State) (b : Bool) : (s.setTf b).cfg = s.cfg := rfl
@[simp] theorem setTf_schedule (s : State) (b : Bool) : (s.setTf b).schedule = s.schedule := rfl
@[simp] theorem setTf_emitted (s : State) (b : Bool) : (s.setTf b).emitted = s.emitted := rfl
@[simp] theorem setTf_draws (s : State) (b : Bool) : (s.setTf b).draws = s.draws := rfl
@[simp] theorem setTf_epoch (s : State) (b : Bool) : (s.setTf b).epoch = s.epoch := rfl
@[simp] theorem setTf_reg (s : State) (b : Bool) (q : Reg) : (s.setTf b).reg q = s.reg q := rfl
@[simp] theorem setTf_ramCell (s : State) (b : Bool) (k : Nat) : (s.setTf b).ramCell k = s.ramCell k := rfl

/-! `setIe` -/

@[simp] theorem setIe_acc (s : State) (b : Bool) : (s.setIe b).acc = s.acc := rfl
@[simp] theorem setIe_regs (s : State) (b : Bool) : (s.setIe b).regs = s.regs := rfl
@[simp] theorem setIe_pc (s : State) (b : Bool) : (s.setIe b).pc = s.pc := rfl
@[simp] theorem setIe_pb (s : State) (b : Bool) : (s.setIe b).pb = s.pb := rfl
@[simp] theorem setIe_cf (s : State) (b : Bool) : (s.setIe b).cf = s.cf := rfl
@[simp] theorem setIe_tf (s : State) (b : Bool) : (s.setIe b).tf = s.tf := rfl
@[simp] theorem setIe_ie (s : State) (b : Bool) : (s.setIe b).ie = b := rfl
@[simp] theorem setIe_rtcf (s : State) (b : Bool) : (s.setIe b).rtcf = s.rtcf := rfl
@[simp] theorem setIe_sub (s : State) (b : Bool) : (s.setIe b).sub = s.sub := rfl
@[simp] theorem setIe_stackPc (s : State) (b : Bool) : (s.setIe b).stackPc = s.stackPc := rfl
@[simp] theorem setIe_stackCf (s : State) (b : Bool) : (s.setIe b).stackCf = s.stackCf := rfl
@[simp] theorem setIe_tmr (s : State) (b : Bool) : (s.setIe b).tmr = s.tmr := rfl
@[simp] theorem setIe_ton (s : State) (b : Bool) : (s.setIe b).ton = s.ton := rfl
@[simp] theorem setIe_pa (s : State) (b : Bool) : (s.setIe b).pa = s.pa := rfl
@[simp] theorem setIe_portc (s : State) (b : Bool) : (s.setIe b).portc = s.portc := rfl
@[simp] theorem setIe_sndSel (s : State) (b : Bool) : (s.setIe b).sndSel = s.sndSel := rfl
@[simp] theorem setIe_sndMode (s : State) (b : Bool) : (s.setIe b).sndMode = s.sndMode := rfl
@[simp] theorem setIe_sndOn (s : State) (b : Bool) : (s.setIe b).sndOn = s.sndOn := rfl
@[simp] theorem setIe_halted (s : State) (b : Bool) : (s.setIe b).halted = s.halted := rfl
@[simp] theorem setIe_ram (s : State) (b : Bool) : (s.setIe b).ram = s.ram := rfl
@[simp] theorem setIe_rom (s : State) (b : Bool) : (s.setIe b).rom = s.rom := rfl
@[simp] theorem setIe_pins (s : State) (b : Bool) : (s.setIe b).pins = s.pins := rfl
@[simp] theorem setIe_cfg (s : State) (b : Bool) : (s.setIe b).cfg = s.cfg := rfl
@[simp] theorem setIe_schedule (s : State) (b : Bool) : (s.setIe b).schedule = s.schedule := rfl
@[simp] theorem setIe_emitted (s : State) (b : Bool) : (s.setIe b).emitted = s.emitted := rfl
@[simp] theorem setIe_draws (s : State) (b : Bool) : (s.setIe b).draws = s.draws := rfl
@[simp] theorem setIe_epoch (s : State) (b : Bool) : (s.setIe b).epoch = s.epoch := rfl
@[simp] theorem setIe_reg (s : State) (b : Bool) (q : Reg) : (s.setIe b).reg q = s.reg q := rfl
@[simp] theorem setIe_ramCell (s : State) (b : Bool) (k : Nat) : (s.setIe b).ramCell k = s.ramCell k := rfl

/-! `setTmr` -/

@[simp] theorem setTmr_acc (s : State) (v : Byte) : (s.setTmr v).acc = s.acc := rfl
@[simp] theorem setTmr_regs (s : State) (v : Byte) : (s.setTmr v).regs = s.regs := rfl
@[simp] theorem setTmr_pc (s : State) (v : Byte) : (s.setTmr v).pc = s.pc := rfl
@[simp] theorem setTmr_pb (s : State) (v : Byte) : (s.setTmr v).pb = s.pb := rfl
@[simp] theorem setTmr_cf (s : State) (v : Byte) : (s.setTmr v).cf = s.cf := rfl
@[simp] theorem setTmr_tf (s : State) (v : Byte) : (s.setTmr v).tf = s.tf := rfl
@[simp] theorem setTmr_ie (s : State) (v : Byte) : (s.setTmr v).ie = s.ie := rfl
@[simp] theorem setTmr_rtcf (s : State) (v : Byte) : (s.setTmr v).rtcf = s.rtcf := rfl
@[simp] theorem setTmr_sub (s : State) (v : Byte) : (s.setTmr v).sub = s.sub := rfl
@[simp] theorem setTmr_stackPc (s : State) (v : Byte) : (s.setTmr v).stackPc = s.stackPc := rfl
@[simp] theorem setTmr_stackCf (s : State) (v : Byte) : (s.setTmr v).stackCf = s.stackCf := rfl
@[simp] theorem setTmr_tmr (s : State) (v : Byte) : (s.setTmr v).tmr = v := rfl
@[simp] theorem setTmr_ton (s : State) (v : Byte) : (s.setTmr v).ton = s.ton := rfl
@[simp] theorem setTmr_pa (s : State) (v : Byte) : (s.setTmr v).pa = s.pa := rfl
@[simp] theorem setTmr_portc (s : State) (v : Byte) : (s.setTmr v).portc = s.portc := rfl
@[simp] theorem setTmr_sndSel (s : State) (v : Byte) : (s.setTmr v).sndSel = s.sndSel := rfl
@[simp] theorem setTmr_sndMode (s : State) (v : Byte) : (s.setTmr v).sndMode = s.sndMode := rfl
@[simp] theorem setTmr_sndOn (s : State) (v : Byte) : (s.setTmr v).sndOn = s.sndOn := rfl
@[simp] theorem setTmr_halted (s : State) (v : Byte) : (s.setTmr v).halted = s.halted := rfl
@[simp] theorem setTmr_ram (s : State) (v : Byte) : (s.setTmr v).ram = s.ram := rfl
@[simp] theorem setTmr_rom (s : State) (v : Byte) : (s.setTmr v).rom = s.rom := rfl
@[simp] theorem setTmr_pins (s : State) (v : Byte) : (s.setTmr v).pins = s.pins := rfl
@[simp] theorem setTmr_cfg (s : State) (v : Byte) : (s.setTmr v).cfg = s.cfg := rfl
@[simp] theorem setTmr_schedule (s : State) (v : Byte) : (s.setTmr v).schedule = s.schedule := rfl
@[simp] theorem setTmr_emitted (s : State) (v : Byte) : (s.setTmr v).emitted = s.emitted := rfl
@[simp] theorem setTmr_draws (s : State) (v : Byte) : (s.setTmr v).draws = s.draws := rfl
@[simp] theorem setTmr_epoch (s : State) (v : Byte) : (s.setTmr v).epoch = s.epoch := rfl
@[simp] theorem setTmr_reg (s : State) (v : Byte) (q : Reg) : (s.setTmr v).reg q = s.reg q := rfl
@[simp] theorem setTmr_ramCell (s : State) (v : Byte) (k : Nat) : (s.setTmr v).ramCell k = s.ramCell k := rfl

/-! `setTon` -/

@[simp] theorem setTon_acc (s : State) (b : Bool) : (s.setTon b).acc = s.acc := rfl
@[simp] theorem setTon_regs (s : State) (b : Bool) : (s.setTon b).regs = s.regs := rfl
@[simp] theorem setTon_pc (s : State) (b : Bool) : (s.setTon b).pc = s.pc := rfl
@[simp] theorem setTon_pb (s : State) (b : Bool) : (s.setTon b).pb = s.pb := rfl
@[simp] theorem setTon_cf (s : State) (b : Bool) : (s.setTon b).cf = s.cf := rfl
@[simp] theorem setTon_tf (s : State) (b : Bool) : (s.setTon b).tf = s.tf := rfl
@[simp] theorem setTon_ie (s : State) (b : Bool) : (s.setTon b).ie = s.ie := rfl
@[simp] theorem setTon_rtcf (s : State) (b : Bool) : (s.setTon b).rtcf = s.rtcf := rfl
@[simp] theorem setTon_sub (s : State) (b : Bool) : (s.setTon b).sub = s.sub := rfl
@[simp] theorem setTon_stackPc (s : State) (b : Bool) : (s.setTon b).stackPc = s.stackPc := rfl
@[simp] theorem setTon_stackCf (s : State) (b : Bool) : (s.setTon b).stackCf = s.stackCf := rfl
@[simp] theorem setTon_tmr (s : State) (b : Bool) : (s.setTon b).tmr = s.tmr := rfl
@[simp] theorem setTon_ton (s : State) (b : Bool) : (s.setTon b).ton = b := rfl
@[simp] theorem setTon_pa (s : State) (b : Bool) : (s.setTon b).pa = s.pa := rfl
@[simp] theorem setTon_portc (s : State) (b : Bool) : (s.setTon b).portc = s.portc := rfl
@[simp] theorem setTon_sndSel (s : State) (b : Bool) : (s.setTon b).sndSel = s.sndSel := rfl
@[simp] theorem setTon_sndMode (s : State) (b : Bool) : (s.setTon b).sndMode = s.sndMode := rfl
@[simp] theorem setTon_sndOn (s : State) (b : Bool) : (s.setTon b).sndOn = s.sndOn := rfl
@[simp] theorem setTon_halted (s : State) (b : Bool) : (s.setTon b).halted = s.halted := rfl
@[simp] theorem setTon_ram (s : State) (b : Bool) : (s.setTon b).ram = s.ram := rfl
@[simp] theorem setTon_rom (s : State) (b : Bool) : (s.setTon b).rom = s.rom := rfl
@[simp] theorem setTon_pins (s : State) (b : Bool) : (s.setTon b).pins = s.pins := rfl
@[simp] theorem setTon_cfg (s : State) (b : Bool) : (s.setTon b).cfg = s.cfg := rfl
@[simp] theorem setTon_schedule (s : State) (b : Bool) : (s.setTon b).schedule = s.schedule := rfl
@[simp] theorem setTon_emitted (s : State) (b : Bool) : (s.setTon b).emitted = s.emitted := rfl
@[simp] theorem setTon_draws (s : State) (b : Bool) : (s.setTon b).draws = s.draws := rfl
@[simp] theorem setTon_epoch (s : State) (b : Bool) : (s.setTon b).epoch = s.epoch := rfl
@[simp] theorem setTon_reg (s : State) (b : Bool) (q : Reg) : (s.setTon b).reg q = s.reg q := rfl
@[simp] theorem setTon_ramCell (s : State) (b : Bool) (k : Nat) : (s.setTon b).ramCell k = s.ramCell k := rfl

/-! `setHalted` -/

@[simp] theorem setHalted_acc (s : State) (b : Bool) : (s.setHalted b).acc = s.acc := rfl
@[simp] theorem setHalted_regs (s : State) (b : Bool) : (s.setHalted b).regs = s.regs := rfl
@[simp] theorem setHalted_pc (s : State) (b : Bool) : (s.setHalted b).pc = s.pc := rfl
@[simp] theorem setHalted_pb (s : State) (b : Bool) : (s.setHalted b).pb = s.pb := rfl
@[simp] theorem setHalted_cf (s : State) (b : Bool) : (s.setHalted b).cf = s.cf := rfl
@[simp] theorem setHalted_tf (s : State) (b : Bool) : (s.setHalted b).tf = s.tf := rfl
@[simp] theorem setHalted_ie (s : State) (b : Bool) : (s.setHalted b).ie = s.ie := rfl
@[simp] theorem setHalted_rtcf (s : State) (b : Bool) : (s.setHalted b).rtcf = s.rtcf := rfl
@[simp] theorem setHalted_sub (s : State) (b : Bool) : (s.setHalted b).sub = s.sub := rfl
@[simp] theorem setHalted_stackPc (s : State) (b : Bool) : (s.setHalted b).stackPc = s.stackPc := rfl
@[simp] theorem setHalted_stackCf (s : State) (b : Bool) : (s.setHalted b).stackCf = s.stackCf := rfl
@[simp] theorem setHalted_tmr (s : State) (b : Bool) : (s.setHalted b).tmr = s.tmr := rfl
@[simp] theorem setHalted_ton (s : State) (b : Bool) : (s.setHalted b).ton = s.ton := rfl
@[simp] theorem setHalted_pa (s : State) (b : Bool) : (s.setHalted b).pa = s.pa := rfl
@[simp] theorem setHalted_portc (s : State) (b : Bool) : (s.setHalted b).portc = s.portc := rfl
@[simp] theorem setHalted_sndSel (s : State) (b : Bool) : (s.setHalted b).sndSel = s.sndSel := rfl
@[simp] theorem setHalted_sndMode (s : State) (b : Bool) : (s.setHalted b).sndMode = s.sndMode := rfl
@[simp] theorem setHalted_sndOn (s : State) (b : Bool) : (s.setHalted b).sndOn = s.sndOn := rfl
@[simp] theorem setHalted_halted (s : State) (b : Bool) : (s.setHalted b).halted = b := rfl
@[simp] theorem setHalted_ram (s : State) (b : Bool) : (s.setHalted b).ram = s.ram := rfl
@[simp] theorem setHalted_rom (s : State) (b : Bool) : (s.setHalted b).rom = s.rom := rfl
@[simp] theorem setHalted_pins (s : State) (b : Bool) : (s.setHalted b).pins = s.pins := rfl
@[simp] theorem setHalted_cfg (s : State) (b : Bool) : (s.setHalted b).cfg = s.cfg := rfl
@[simp] theorem setHalted_schedule (s : State) (b : Bool) : (s.setHalted b).schedule = s.schedule := rfl
@[simp] theorem setHalted_emitted (s : State) (b : Bool) : (s.setHalted b).emitted = s.emitted := rfl
@[simp] theorem setHalted_draws (s : State) (b : Bool) : (s.setHalted b).draws = s.draws := rfl
@[simp] theorem setHalted_epoch (s : State) (b : Bool) : (s.setHalted b).epoch = s.epoch := rfl
@[simp] theorem setHalted_reg (s : State) (b : Bool) (q : Reg) : (s.setHalted b).reg q = s.reg q := rfl
@[simp] theorem setHalted_ramCell (s : State) (b : Bool) (k : Nat) : (s.setHalted b).ramCell k = s.ramCell k := rfl

/-! `jump` -/

@[simp] theorem jump_acc (s : State) (a : CodeAddr) : (s.jump a).acc = s.acc := rfl
@[simp] theorem jump_regs (s : State) (a : CodeAddr) : (s.jump a).regs = s.regs := rfl
@[simp] theorem jump_pc (s : State) (a : CodeAddr) : (s.jump a).pc = a := rfl
@[simp] theorem jump_pb (s : State) (a : CodeAddr) : (s.jump a).pb = s.pb := rfl
@[simp] theorem jump_cf (s : State) (a : CodeAddr) : (s.jump a).cf = s.cf := rfl
@[simp] theorem jump_tf (s : State) (a : CodeAddr) : (s.jump a).tf = s.tf := rfl
@[simp] theorem jump_ie (s : State) (a : CodeAddr) : (s.jump a).ie = s.ie := rfl
@[simp] theorem jump_rtcf (s : State) (a : CodeAddr) : (s.jump a).rtcf = s.rtcf := rfl
@[simp] theorem jump_sub (s : State) (a : CodeAddr) : (s.jump a).sub = s.sub := rfl
@[simp] theorem jump_stackPc (s : State) (a : CodeAddr) : (s.jump a).stackPc = s.stackPc := rfl
@[simp] theorem jump_stackCf (s : State) (a : CodeAddr) : (s.jump a).stackCf = s.stackCf := rfl
@[simp] theorem jump_tmr (s : State) (a : CodeAddr) : (s.jump a).tmr = s.tmr := rfl
@[simp] theorem jump_ton (s : State) (a : CodeAddr) : (s.jump a).ton = s.ton := rfl
@[simp] theorem jump_pa (s : State) (a : CodeAddr) : (s.jump a).pa = s.pa := rfl
@[simp] theorem jump_portc (s : State) (a : CodeAddr) : (s.jump a).portc = s.portc := rfl
@[simp] theorem jump_sndSel (s : State) (a : CodeAddr) : (s.jump a).sndSel = s.sndSel := rfl
@[simp] theorem jump_sndMode (s : State) (a : CodeAddr) : (s.jump a).sndMode = s.sndMode := rfl
@[simp] theorem jump_sndOn (s : State) (a : CodeAddr) : (s.jump a).sndOn = s.sndOn := rfl
@[simp] theorem jump_halted (s : State) (a : CodeAddr) : (s.jump a).halted = s.halted := rfl
@[simp] theorem jump_ram (s : State) (a : CodeAddr) : (s.jump a).ram = s.ram := rfl
@[simp] theorem jump_rom (s : State) (a : CodeAddr) : (s.jump a).rom = s.rom := rfl
@[simp] theorem jump_pins (s : State) (a : CodeAddr) : (s.jump a).pins = s.pins := rfl
@[simp] theorem jump_cfg (s : State) (a : CodeAddr) : (s.jump a).cfg = s.cfg := rfl
@[simp] theorem jump_schedule (s : State) (a : CodeAddr) : (s.jump a).schedule = s.schedule := rfl
@[simp] theorem jump_emitted (s : State) (a : CodeAddr) : (s.jump a).emitted = s.emitted := rfl
@[simp] theorem jump_draws (s : State) (a : CodeAddr) : (s.jump a).draws = s.draws := rfl
@[simp] theorem jump_epoch (s : State) (a : CodeAddr) : (s.jump a).epoch = s.epoch := rfl
@[simp] theorem jump_reg (s : State) (a : CodeAddr) (q : Reg) : (s.jump a).reg q = s.reg q := rfl
@[simp] theorem jump_ramCell (s : State) (a : CodeAddr) (k : Nat) : (s.jump a).ramCell k = s.ramCell k := rfl

/-! `advance` -/

@[simp] theorem advance_acc (s : State) (n : CodeAddr) : (s.advance n).acc = s.acc := rfl
@[simp] theorem advance_regs (s : State) (n : CodeAddr) : (s.advance n).regs = s.regs := rfl
@[simp] theorem advance_pc (s : State) (n : CodeAddr) : (s.advance n).pc = s.pc + n := rfl
@[simp] theorem advance_pb (s : State) (n : CodeAddr) : (s.advance n).pb = s.pb := rfl
@[simp] theorem advance_cf (s : State) (n : CodeAddr) : (s.advance n).cf = s.cf := rfl
@[simp] theorem advance_tf (s : State) (n : CodeAddr) : (s.advance n).tf = s.tf := rfl
@[simp] theorem advance_ie (s : State) (n : CodeAddr) : (s.advance n).ie = s.ie := rfl
@[simp] theorem advance_rtcf (s : State) (n : CodeAddr) : (s.advance n).rtcf = s.rtcf := rfl
@[simp] theorem advance_sub (s : State) (n : CodeAddr) : (s.advance n).sub = s.sub := rfl
@[simp] theorem advance_stackPc (s : State) (n : CodeAddr) : (s.advance n).stackPc = s.stackPc := rfl
@[simp] theorem advance_stackCf (s : State) (n : CodeAddr) : (s.advance n).stackCf = s.stackCf := rfl
@[simp] theorem advance_tmr (s : State) (n : CodeAddr) : (s.advance n).tmr = s.tmr := rfl
@[simp] theorem advance_ton (s : State) (n : CodeAddr) : (s.advance n).ton = s.ton := rfl
@[simp] theorem advance_pa (s : State) (n : CodeAddr) : (s.advance n).pa = s.pa := rfl
@[simp] theorem advance_portc (s : State) (n : CodeAddr) : (s.advance n).portc = s.portc := rfl
@[simp] theorem advance_sndSel (s : State) (n : CodeAddr) : (s.advance n).sndSel = s.sndSel := rfl
@[simp] theorem advance_sndMode (s : State) (n : CodeAddr) : (s.advance n).sndMode = s.sndMode := rfl
@[simp] theorem advance_sndOn (s : State) (n : CodeAddr) : (s.advance n).sndOn = s.sndOn := rfl
@[simp] theorem advance_halted (s : State) (n : CodeAddr) : (s.advance n).halted = s.halted := rfl
@[simp] theorem advance_ram (s : State) (n : CodeAddr) : (s.advance n).ram = s.ram := rfl
@[simp] theorem advance_rom (s : State) (n : CodeAddr) : (s.advance n).rom = s.rom := rfl
@[simp] theorem advance_pins (s : State) (n : CodeAddr) : (s.advance n).pins = s.pins := rfl
@[simp] theorem advance_cfg (s : State) (n : CodeAddr) : (s.advance n).cfg = s.cfg := rfl
@[simp] theorem advance_schedule (s : State) (n : CodeAddr) : (s.advance n).schedule = s.schedule := rfl
@[simp] theorem advance_emitted (s : State) (n : CodeAddr) : (s.advance n).emitted = s.emitted := rfl
@[simp] theorem advance_draws (s : State) (n : CodeAddr) : (s.advance n).draws = s.draws := rfl
@[simp] theorem advance_epoch (s : State) (n : CodeAddr) : (s.advance n).epoch = s.epoch := rfl
@[simp] theorem advance_reg (s : State) (n : CodeAddr) (q : Reg) : (s.advance n).reg q = s.reg q := rfl
@[simp] theorem advance_ramCell (s : State) (n : CodeAddr) (k : Nat) : (s.advance n).ramCell k = s.ramCell k := rfl

/-! `emit` -/

@[simp] theorem emit_acc (s : State) (e : Emission) : (s.emit e).acc = s.acc := rfl
@[simp] theorem emit_regs (s : State) (e : Emission) : (s.emit e).regs = s.regs := rfl
@[simp] theorem emit_pc (s : State) (e : Emission) : (s.emit e).pc = s.pc := rfl
@[simp] theorem emit_pb (s : State) (e : Emission) : (s.emit e).pb = s.pb := rfl
@[simp] theorem emit_cf (s : State) (e : Emission) : (s.emit e).cf = s.cf := rfl
@[simp] theorem emit_tf (s : State) (e : Emission) : (s.emit e).tf = s.tf := rfl
@[simp] theorem emit_ie (s : State) (e : Emission) : (s.emit e).ie = s.ie := rfl
@[simp] theorem emit_rtcf (s : State) (e : Emission) : (s.emit e).rtcf = s.rtcf := rfl
@[simp] theorem emit_sub (s : State) (e : Emission) : (s.emit e).sub = s.sub := rfl
@[simp] theorem emit_stackPc (s : State) (e : Emission) : (s.emit e).stackPc = s.stackPc := rfl
@[simp] theorem emit_stackCf (s : State) (e : Emission) : (s.emit e).stackCf = s.stackCf := rfl
@[simp] theorem emit_tmr (s : State) (e : Emission) : (s.emit e).tmr = s.tmr := rfl
@[simp] theorem emit_ton (s : State) (e : Emission) : (s.emit e).ton = s.ton := rfl
@[simp] theorem emit_pa (s : State) (e : Emission) : (s.emit e).pa = s.pa := rfl
@[simp] theorem emit_portc (s : State) (e : Emission) : (s.emit e).portc = s.portc := rfl
@[simp] theorem emit_sndSel (s : State) (e : Emission) : (s.emit e).sndSel = s.sndSel := rfl
@[simp] theorem emit_sndMode (s : State) (e : Emission) : (s.emit e).sndMode = s.sndMode := rfl
@[simp] theorem emit_sndOn (s : State) (e : Emission) : (s.emit e).sndOn = s.sndOn := rfl
@[simp] theorem emit_halted (s : State) (e : Emission) : (s.emit e).halted = s.halted := rfl
@[simp] theorem emit_ram (s : State) (e : Emission) : (s.emit e).ram = s.ram := rfl
@[simp] theorem emit_rom (s : State) (e : Emission) : (s.emit e).rom = s.rom := rfl
@[simp] theorem emit_pins (s : State) (e : Emission) : (s.emit e).pins = s.pins := rfl
@[simp] theorem emit_cfg (s : State) (e : Emission) : (s.emit e).cfg = s.cfg := rfl
@[simp] theorem emit_schedule (s : State) (e : Emission) : (s.emit e).schedule = s.schedule := rfl
@[simp] theorem emit_emitted (s : State) (e : Emission) : (s.emit e).emitted = e :: s.emitted := rfl
@[simp] theorem emit_draws (s : State) (e : Emission) : (s.emit e).draws = s.draws := rfl
@[simp] theorem emit_epoch (s : State) (e : Emission) : (s.emit e).epoch = s.epoch := rfl
@[simp] theorem emit_reg (s : State) (e : Emission) (q : Reg) : (s.emit e).reg q = s.reg q := rfl
@[simp] theorem emit_ramCell (s : State) (e : Emission) (k : Nat) : (s.emit e).ramCell k = s.ramCell k := rfl

/-! `outPA` -/

@[simp] theorem outPA_acc (s : State) (v : Nibble) : (s.outPA v).acc = s.acc := rfl
@[simp] theorem outPA_regs (s : State) (v : Nibble) : (s.outPA v).regs = s.regs := rfl
@[simp] theorem outPA_pc (s : State) (v : Nibble) : (s.outPA v).pc = s.pc := rfl
@[simp] theorem outPA_pb (s : State) (v : Nibble) : (s.outPA v).pb = s.pb := rfl
@[simp] theorem outPA_cf (s : State) (v : Nibble) : (s.outPA v).cf = s.cf := rfl
@[simp] theorem outPA_tf (s : State) (v : Nibble) : (s.outPA v).tf = s.tf := rfl
@[simp] theorem outPA_ie (s : State) (v : Nibble) : (s.outPA v).ie = s.ie := rfl
@[simp] theorem outPA_rtcf (s : State) (v : Nibble) : (s.outPA v).rtcf = s.rtcf := rfl
@[simp] theorem outPA_sub (s : State) (v : Nibble) : (s.outPA v).sub = s.sub := rfl
@[simp] theorem outPA_stackPc (s : State) (v : Nibble) : (s.outPA v).stackPc = s.stackPc := rfl
@[simp] theorem outPA_stackCf (s : State) (v : Nibble) : (s.outPA v).stackCf = s.stackCf := rfl
@[simp] theorem outPA_tmr (s : State) (v : Nibble) : (s.outPA v).tmr = s.tmr := rfl
@[simp] theorem outPA_ton (s : State) (v : Nibble) : (s.outPA v).ton = s.ton := rfl
@[simp] theorem outPA_pa (s : State) (v : Nibble) : (s.outPA v).pa = v := rfl
@[simp] theorem outPA_portc (s : State) (v : Nibble) : (s.outPA v).portc = s.portc := rfl
@[simp] theorem outPA_sndSel (s : State) (v : Nibble) : (s.outPA v).sndSel = s.sndSel := rfl
@[simp] theorem outPA_sndMode (s : State) (v : Nibble) : (s.outPA v).sndMode = s.sndMode := rfl
@[simp] theorem outPA_sndOn (s : State) (v : Nibble) : (s.outPA v).sndOn = s.sndOn := rfl
@[simp] theorem outPA_halted (s : State) (v : Nibble) : (s.outPA v).halted = s.halted := rfl
@[simp] theorem outPA_ram (s : State) (v : Nibble) : (s.outPA v).ram = s.ram := rfl
@[simp] theorem outPA_rom (s : State) (v : Nibble) : (s.outPA v).rom = s.rom := rfl
@[simp] theorem outPA_pins (s : State) (v : Nibble) : (s.outPA v).pins = s.pins := rfl
@[simp] theorem outPA_cfg (s : State) (v : Nibble) : (s.outPA v).cfg = s.cfg := rfl
@[simp] theorem outPA_schedule (s : State) (v : Nibble) : (s.outPA v).schedule = s.schedule := rfl
@[simp] theorem outPA_emitted (s : State) (v : Nibble) : (s.outPA v).emitted = .portA v :: s.emitted := rfl
@[simp] theorem outPA_draws (s : State) (v : Nibble) : (s.outPA v).draws = s.draws := rfl
@[simp] theorem outPA_epoch (s : State) (v : Nibble) : (s.outPA v).epoch = s.epoch := rfl
@[simp] theorem outPA_reg (s : State) (v : Nibble) (q : Reg) : (s.outPA v).reg q = s.reg q := rfl
@[simp] theorem outPA_ramCell (s : State) (v : Nibble) (k : Nat) : (s.outPA v).ramCell k = s.ramCell k := rfl

/-! `outPC` -/

@[simp] theorem outPC_acc (s : State) (v : Nibble) : (s.outPC v).acc = s.acc := rfl
@[simp] theorem outPC_regs (s : State) (v : Nibble) : (s.outPC v).regs = s.regs := rfl
@[simp] theorem outPC_pc (s : State) (v : Nibble) : (s.outPC v).pc = s.pc := rfl
@[simp] theorem outPC_pb (s : State) (v : Nibble) : (s.outPC v).pb = s.pb := rfl
@[simp] theorem outPC_cf (s : State) (v : Nibble) : (s.outPC v).cf = s.cf := rfl
@[simp] theorem outPC_tf (s : State) (v : Nibble) : (s.outPC v).tf = s.tf := rfl
@[simp] theorem outPC_ie (s : State) (v : Nibble) : (s.outPC v).ie = s.ie := rfl
@[simp] theorem outPC_rtcf (s : State) (v : Nibble) : (s.outPC v).rtcf = s.rtcf := rfl
@[simp] theorem outPC_sub (s : State) (v : Nibble) : (s.outPC v).sub = s.sub := rfl
@[simp] theorem outPC_stackPc (s : State) (v : Nibble) : (s.outPC v).stackPc = s.stackPc := rfl
@[simp] theorem outPC_stackCf (s : State) (v : Nibble) : (s.outPC v).stackCf = s.stackCf := rfl
@[simp] theorem outPC_tmr (s : State) (v : Nibble) : (s.outPC v).tmr = s.tmr := rfl
@[simp] theorem outPC_ton (s : State) (v : Nibble) : (s.outPC v).ton = s.ton := rfl
@[simp] theorem outPC_pa (s : State) (v : Nibble) : (s.outPC v).pa = s.pa := rfl
@[simp] theorem outPC_portc (s : State) (v : Nibble) : (s.outPC v).portc = v := rfl
@[simp] theorem outPC_sndSel (s : State) (v : Nibble) : (s.outPC v).sndSel = s.sndSel := rfl
@[simp] theorem outPC_sndMode (s : State) (v : Nibble) : (s.outPC v).sndMode = s.sndMode := rfl
@[simp] theorem outPC_sndOn (s : State) (v : Nibble) : (s.outPC v).sndOn = s.sndOn := rfl
@[simp] theorem outPC_halted (s : State) (v : Nibble) : (s.outPC v).halted = s.halted := rfl
@[simp] theorem outPC_ram (s : State) (v : Nibble) : (s.outPC v).ram = s.ram := rfl
@[simp] theorem outPC_rom (s : State) (v : Nibble) : (s.outPC v).rom = s.rom := rfl
@[simp] theorem outPC_pins (s : State) (v : Nibble) : (s.outPC v).pins = s.pins := rfl
@[simp] theorem outPC_cfg (s : State) (v : Nibble) : (s.outPC v).cfg = s.cfg := rfl
@[simp] theorem outPC_schedule (s : State) (v : Nibble) : (s.outPC v).schedule = s.schedule := rfl
@[simp] theorem outPC_emitted (s : State) (v : Nibble) : (s.outPC v).emitted = .portC v :: s.emitted := rfl
@[simp] theorem outPC_draws (s : State) (v : Nibble) : (s.outPC v).draws = s.draws := rfl
@[simp] theorem outPC_epoch (s : State) (v : Nibble) : (s.outPC v).epoch = s.epoch := rfl
@[simp] theorem outPC_reg (s : State) (v : Nibble) (q : Reg) : (s.outPC v).reg q = s.reg q := rfl
@[simp] theorem outPC_ramCell (s : State) (v : Nibble) (k : Nat) : (s.outPC v).ramCell k = s.ramCell k := rfl

/-! `startSound` -/

@[simp] theorem startSound_acc (s : State) (n : Nibble) : (s.startSound n).acc = s.acc := rfl
@[simp] theorem startSound_regs (s : State) (n : Nibble) : (s.startSound n).regs = s.regs := rfl
@[simp] theorem startSound_pc (s : State) (n : Nibble) : (s.startSound n).pc = s.pc := rfl
@[simp] theorem startSound_pb (s : State) (n : Nibble) : (s.startSound n).pb = s.pb := rfl
@[simp] theorem startSound_cf (s : State) (n : Nibble) : (s.startSound n).cf = s.cf := rfl
@[simp] theorem startSound_tf (s : State) (n : Nibble) : (s.startSound n).tf = s.tf := rfl
@[simp] theorem startSound_ie (s : State) (n : Nibble) : (s.startSound n).ie = s.ie := rfl
@[simp] theorem startSound_rtcf (s : State) (n : Nibble) : (s.startSound n).rtcf = s.rtcf := rfl
@[simp] theorem startSound_sub (s : State) (n : Nibble) : (s.startSound n).sub = s.sub := rfl
@[simp] theorem startSound_stackPc (s : State) (n : Nibble) : (s.startSound n).stackPc = s.stackPc := rfl
@[simp] theorem startSound_stackCf (s : State) (n : Nibble) : (s.startSound n).stackCf = s.stackCf := rfl
@[simp] theorem startSound_tmr (s : State) (n : Nibble) : (s.startSound n).tmr = s.tmr := rfl
@[simp] theorem startSound_ton (s : State) (n : Nibble) : (s.startSound n).ton = s.ton := rfl
@[simp] theorem startSound_pa (s : State) (n : Nibble) : (s.startSound n).pa = s.pa := rfl
@[simp] theorem startSound_portc (s : State) (n : Nibble) : (s.startSound n).portc = s.portc := rfl
@[simp] theorem startSound_sndSel (s : State) (n : Nibble) : (s.startSound n).sndSel = n := rfl
@[simp] theorem startSound_sndMode (s : State) (n : Nibble) : (s.startSound n).sndMode = s.sndMode := rfl
@[simp] theorem startSound_sndOn (s : State) (n : Nibble) : (s.startSound n).sndOn = true := rfl
@[simp] theorem startSound_halted (s : State) (n : Nibble) : (s.startSound n).halted = s.halted := rfl
@[simp] theorem startSound_ram (s : State) (n : Nibble) : (s.startSound n).ram = s.ram := rfl
@[simp] theorem startSound_rom (s : State) (n : Nibble) : (s.startSound n).rom = s.rom := rfl
@[simp] theorem startSound_pins (s : State) (n : Nibble) : (s.startSound n).pins = s.pins := rfl
@[simp] theorem startSound_cfg (s : State) (n : Nibble) : (s.startSound n).cfg = s.cfg := rfl
@[simp] theorem startSound_schedule (s : State) (n : Nibble) : (s.startSound n).schedule = s.schedule := rfl
@[simp] theorem startSound_emitted (s : State) (n : Nibble) : (s.startSound n).emitted = .soundStart n s.sndMode :: s.emitted := rfl
@[simp] theorem startSound_draws (s : State) (n : Nibble) : (s.startSound n).draws = s.draws := rfl
@[simp] theorem startSound_epoch (s : State) (n : Nibble) : (s.startSound n).epoch = s.epoch := rfl
@[simp] theorem startSound_reg (s : State) (n : Nibble) (q : Reg) : (s.startSound n).reg q = s.reg q := rfl
@[simp] theorem startSound_ramCell (s : State) (n : Nibble) (k : Nat) : (s.startSound n).ramCell k = s.ramCell k := rfl

/-! `setSoundMode` -/

@[simp] theorem setSoundMode_acc (s : State) (m : SoundMode) : (s.setSoundMode m).acc = s.acc := rfl
@[simp] theorem setSoundMode_regs (s : State) (m : SoundMode) : (s.setSoundMode m).regs = s.regs := rfl
@[simp] theorem setSoundMode_pc (s : State) (m : SoundMode) : (s.setSoundMode m).pc = s.pc := rfl
@[simp] theorem setSoundMode_pb (s : State) (m : SoundMode) : (s.setSoundMode m).pb = s.pb := rfl
@[simp] theorem setSoundMode_cf (s : State) (m : SoundMode) : (s.setSoundMode m).cf = s.cf := rfl
@[simp] theorem setSoundMode_tf (s : State) (m : SoundMode) : (s.setSoundMode m).tf = s.tf := rfl
@[simp] theorem setSoundMode_ie (s : State) (m : SoundMode) : (s.setSoundMode m).ie = s.ie := rfl
@[simp] theorem setSoundMode_rtcf (s : State) (m : SoundMode) : (s.setSoundMode m).rtcf = s.rtcf := rfl
@[simp] theorem setSoundMode_sub (s : State) (m : SoundMode) : (s.setSoundMode m).sub = s.sub := rfl
@[simp] theorem setSoundMode_stackPc (s : State) (m : SoundMode) : (s.setSoundMode m).stackPc = s.stackPc := rfl
@[simp] theorem setSoundMode_stackCf (s : State) (m : SoundMode) : (s.setSoundMode m).stackCf = s.stackCf := rfl
@[simp] theorem setSoundMode_tmr (s : State) (m : SoundMode) : (s.setSoundMode m).tmr = s.tmr := rfl
@[simp] theorem setSoundMode_ton (s : State) (m : SoundMode) : (s.setSoundMode m).ton = s.ton := rfl
@[simp] theorem setSoundMode_pa (s : State) (m : SoundMode) : (s.setSoundMode m).pa = s.pa := rfl
@[simp] theorem setSoundMode_portc (s : State) (m : SoundMode) : (s.setSoundMode m).portc = s.portc := rfl
@[simp] theorem setSoundMode_sndSel (s : State) (m : SoundMode) : (s.setSoundMode m).sndSel = s.sndSel := rfl
@[simp] theorem setSoundMode_sndMode (s : State) (m : SoundMode) : (s.setSoundMode m).sndMode = m := rfl
@[simp] theorem setSoundMode_sndOn (s : State) (m : SoundMode) : (s.setSoundMode m).sndOn = s.sndOn := rfl
@[simp] theorem setSoundMode_halted (s : State) (m : SoundMode) : (s.setSoundMode m).halted = s.halted := rfl
@[simp] theorem setSoundMode_ram (s : State) (m : SoundMode) : (s.setSoundMode m).ram = s.ram := rfl
@[simp] theorem setSoundMode_rom (s : State) (m : SoundMode) : (s.setSoundMode m).rom = s.rom := rfl
@[simp] theorem setSoundMode_pins (s : State) (m : SoundMode) : (s.setSoundMode m).pins = s.pins := rfl
@[simp] theorem setSoundMode_cfg (s : State) (m : SoundMode) : (s.setSoundMode m).cfg = s.cfg := rfl
@[simp] theorem setSoundMode_schedule (s : State) (m : SoundMode) : (s.setSoundMode m).schedule = s.schedule := rfl
@[simp] theorem setSoundMode_emitted (s : State) (m : SoundMode) : (s.setSoundMode m).emitted = .soundMode m :: s.emitted := rfl
@[simp] theorem setSoundMode_draws (s : State) (m : SoundMode) : (s.setSoundMode m).draws = s.draws := rfl
@[simp] theorem setSoundMode_epoch (s : State) (m : SoundMode) : (s.setSoundMode m).epoch = s.epoch := rfl
@[simp] theorem setSoundMode_reg (s : State) (m : SoundMode) (q : Reg) : (s.setSoundMode m).reg q = s.reg q := rfl
@[simp] theorem setSoundMode_ramCell (s : State) (m : SoundMode) (k : Nat) : (s.setSoundMode m).ramCell k = s.ramCell k := rfl

/-! `stopSound` -/

@[simp] theorem stopSound_acc (s : State) : s.stopSound.acc = s.acc := rfl
@[simp] theorem stopSound_regs (s : State) : s.stopSound.regs = s.regs := rfl
@[simp] theorem stopSound_pc (s : State) : s.stopSound.pc = s.pc := rfl
@[simp] theorem stopSound_pb (s : State) : s.stopSound.pb = s.pb := rfl
@[simp] theorem stopSound_cf (s : State) : s.stopSound.cf = s.cf := rfl
@[simp] theorem stopSound_tf (s : State) : s.stopSound.tf = s.tf := rfl
@[simp] theorem stopSound_ie (s : State) : s.stopSound.ie = s.ie := rfl
@[simp] theorem stopSound_rtcf (s : State) : s.stopSound.rtcf = s.rtcf := rfl
@[simp] theorem stopSound_sub (s : State) : s.stopSound.sub = s.sub := rfl
@[simp] theorem stopSound_stackPc (s : State) : s.stopSound.stackPc = s.stackPc := rfl
@[simp] theorem stopSound_stackCf (s : State) : s.stopSound.stackCf = s.stackCf := rfl
@[simp] theorem stopSound_tmr (s : State) : s.stopSound.tmr = s.tmr := rfl
@[simp] theorem stopSound_ton (s : State) : s.stopSound.ton = s.ton := rfl
@[simp] theorem stopSound_pa (s : State) : s.stopSound.pa = s.pa := rfl
@[simp] theorem stopSound_portc (s : State) : s.stopSound.portc = s.portc := rfl
@[simp] theorem stopSound_sndSel (s : State) : s.stopSound.sndSel = s.sndSel := rfl
@[simp] theorem stopSound_sndMode (s : State) : s.stopSound.sndMode = s.sndMode := rfl
@[simp] theorem stopSound_sndOn (s : State) : s.stopSound.sndOn = false := rfl
@[simp] theorem stopSound_halted (s : State) : s.stopSound.halted = s.halted := rfl
@[simp] theorem stopSound_ram (s : State) : s.stopSound.ram = s.ram := rfl
@[simp] theorem stopSound_rom (s : State) : s.stopSound.rom = s.rom := rfl
@[simp] theorem stopSound_pins (s : State) : s.stopSound.pins = s.pins := rfl
@[simp] theorem stopSound_cfg (s : State) : s.stopSound.cfg = s.cfg := rfl
@[simp] theorem stopSound_schedule (s : State) : s.stopSound.schedule = s.schedule := rfl
@[simp] theorem stopSound_emitted (s : State) : s.stopSound.emitted = .soundOff :: s.emitted := rfl
@[simp] theorem stopSound_draws (s : State) : s.stopSound.draws = s.draws := rfl
@[simp] theorem stopSound_epoch (s : State) : s.stopSound.epoch = s.epoch := rfl
@[simp] theorem stopSound_reg (s : State) (q : Reg) : s.stopSound.reg q = s.reg q := rfl
@[simp] theorem stopSound_ramCell (s : State) (k : Nat) : s.stopSound.ramCell k = s.ramCell k := rfl

/-! `drawn` -/

@[simp] theorem drawn_acc (s : State) : s.drawn.acc = s.acc := rfl
@[simp] theorem drawn_regs (s : State) : s.drawn.regs = s.regs := rfl
@[simp] theorem drawn_pc (s : State) : s.drawn.pc = s.pc := rfl
@[simp] theorem drawn_pb (s : State) : s.drawn.pb = s.pb := rfl
@[simp] theorem drawn_cf (s : State) : s.drawn.cf = s.cf := rfl
@[simp] theorem drawn_tf (s : State) : s.drawn.tf = s.tf := rfl
@[simp] theorem drawn_ie (s : State) : s.drawn.ie = s.ie := rfl
@[simp] theorem drawn_rtcf (s : State) : s.drawn.rtcf = s.rtcf := rfl
@[simp] theorem drawn_sub (s : State) : s.drawn.sub = s.sub := rfl
@[simp] theorem drawn_stackPc (s : State) : s.drawn.stackPc = s.stackPc := rfl
@[simp] theorem drawn_stackCf (s : State) : s.drawn.stackCf = s.stackCf := rfl
@[simp] theorem drawn_tmr (s : State) : s.drawn.tmr = s.tmr := rfl
@[simp] theorem drawn_ton (s : State) : s.drawn.ton = s.ton := rfl
@[simp] theorem drawn_pa (s : State) : s.drawn.pa = s.pa := rfl
@[simp] theorem drawn_portc (s : State) : s.drawn.portc = s.portc := rfl
@[simp] theorem drawn_sndSel (s : State) : s.drawn.sndSel = s.sndSel := rfl
@[simp] theorem drawn_sndMode (s : State) : s.drawn.sndMode = s.sndMode := rfl
@[simp] theorem drawn_sndOn (s : State) : s.drawn.sndOn = s.sndOn := rfl
@[simp] theorem drawn_halted (s : State) : s.drawn.halted = s.halted := rfl
@[simp] theorem drawn_ram (s : State) : s.drawn.ram = s.ram := rfl
@[simp] theorem drawn_rom (s : State) : s.drawn.rom = s.rom := rfl
@[simp] theorem drawn_pins (s : State) : s.drawn.pins = s.pins := rfl
@[simp] theorem drawn_cfg (s : State) : s.drawn.cfg = s.cfg := rfl
@[simp] theorem drawn_schedule (s : State) : s.drawn.schedule = s.schedule := rfl
@[simp] theorem drawn_emitted (s : State) : s.drawn.emitted = s.emitted := rfl
@[simp] theorem drawn_draws (s : State) : s.drawn.draws = s.draws + 1 := rfl
@[simp] theorem drawn_epoch (s : State) : s.drawn.epoch = s.epoch := rfl
@[simp] theorem drawn_reg (s : State) (q : Reg) : s.drawn.reg q = s.reg q := rfl
@[simp] theorem drawn_ramCell (s : State) (k : Nat) : s.drawn.ramCell k = s.ramCell k := rfl

/-! `memWrite` -/

@[simp] theorem memWrite_acc (s : State) (a : Byte) (v : Nibble) : (s.memWrite a v).acc = s.acc := rfl
@[simp] theorem memWrite_regs (s : State) (a : Byte) (v : Nibble) : (s.memWrite a v).regs = s.regs := rfl
@[simp] theorem memWrite_pc (s : State) (a : Byte) (v : Nibble) : (s.memWrite a v).pc = s.pc := rfl
@[simp] theorem memWrite_pb (s : State) (a : Byte) (v : Nibble) : (s.memWrite a v).pb = s.pb := rfl
@[simp] theorem memWrite_cf (s : State) (a : Byte) (v : Nibble) : (s.memWrite a v).cf = s.cf := rfl
@[simp] theorem memWrite_tf (s : State) (a : Byte) (v : Nibble) : (s.memWrite a v).tf = s.tf := rfl
@[simp] theorem memWrite_ie (s : State) (a : Byte) (v : Nibble) : (s.memWrite a v).ie = s.ie := rfl
@[simp] theorem memWrite_rtcf (s : State) (a : Byte) (v : Nibble) : (s.memWrite a v).rtcf = s.rtcf := rfl
@[simp] theorem memWrite_sub (s : State) (a : Byte) (v : Nibble) : (s.memWrite a v).sub = s.sub := rfl
@[simp] theorem memWrite_stackPc (s : State) (a : Byte) (v : Nibble) : (s.memWrite a v).stackPc = s.stackPc := rfl
@[simp] theorem memWrite_stackCf (s : State) (a : Byte) (v : Nibble) : (s.memWrite a v).stackCf = s.stackCf := rfl
@[simp] theorem memWrite_tmr (s : State) (a : Byte) (v : Nibble) : (s.memWrite a v).tmr = s.tmr := rfl
@[simp] theorem memWrite_ton (s : State) (a : Byte) (v : Nibble) : (s.memWrite a v).ton = s.ton := rfl
@[simp] theorem memWrite_pa (s : State) (a : Byte) (v : Nibble) : (s.memWrite a v).pa = s.pa := rfl
@[simp] theorem memWrite_portc (s : State) (a : Byte) (v : Nibble) : (s.memWrite a v).portc = s.portc := rfl
@[simp] theorem memWrite_sndSel (s : State) (a : Byte) (v : Nibble) : (s.memWrite a v).sndSel = s.sndSel := rfl
@[simp] theorem memWrite_sndMode (s : State) (a : Byte) (v : Nibble) : (s.memWrite a v).sndMode = s.sndMode := rfl
@[simp] theorem memWrite_sndOn (s : State) (a : Byte) (v : Nibble) : (s.memWrite a v).sndOn = s.sndOn := rfl
@[simp] theorem memWrite_halted (s : State) (a : Byte) (v : Nibble) : (s.memWrite a v).halted = s.halted := rfl
@[simp] theorem memWrite_ram (s : State) (a : Byte) (v : Nibble) : (s.memWrite a v).ram = s.ram.write (s.cell a) v := rfl
@[simp] theorem memWrite_rom (s : State) (a : Byte) (v : Nibble) : (s.memWrite a v).rom = s.rom := rfl
@[simp] theorem memWrite_pins (s : State) (a : Byte) (v : Nibble) : (s.memWrite a v).pins = s.pins := rfl
@[simp] theorem memWrite_cfg (s : State) (a : Byte) (v : Nibble) : (s.memWrite a v).cfg = s.cfg := rfl
@[simp] theorem memWrite_schedule (s : State) (a : Byte) (v : Nibble) : (s.memWrite a v).schedule = s.schedule := rfl
@[simp] theorem memWrite_emitted (s : State) (a : Byte) (v : Nibble) : (s.memWrite a v).emitted = s.emitted := rfl
@[simp] theorem memWrite_draws (s : State) (a : Byte) (v : Nibble) : (s.memWrite a v).draws = s.draws := rfl
@[simp] theorem memWrite_epoch (s : State) (a : Byte) (v : Nibble) : (s.memWrite a v).epoch = s.epoch := rfl
@[simp] theorem memWrite_reg (s : State) (a : Byte) (v : Nibble) (q : Reg) : (s.memWrite a v).reg q = s.reg q := rfl

/-! `tableToR4` -/

@[simp] theorem tableToR4_acc (s : State) (b : Byte) : (s.tableToR4 b).acc = b.extractLsb' 0 4 := rfl
@[simp] theorem tableToR4_regs (s : State) (b : Byte) : (s.tableToR4 b).regs = writeReg s.regs .r4 (b.extractLsb' 4 4) := rfl
@[simp] theorem tableToR4_pc (s : State) (b : Byte) : (s.tableToR4 b).pc = s.pc := rfl
@[simp] theorem tableToR4_pb (s : State) (b : Byte) : (s.tableToR4 b).pb = s.pb := rfl
@[simp] theorem tableToR4_cf (s : State) (b : Byte) : (s.tableToR4 b).cf = s.cf := rfl
@[simp] theorem tableToR4_tf (s : State) (b : Byte) : (s.tableToR4 b).tf = s.tf := rfl
@[simp] theorem tableToR4_ie (s : State) (b : Byte) : (s.tableToR4 b).ie = s.ie := rfl
@[simp] theorem tableToR4_rtcf (s : State) (b : Byte) : (s.tableToR4 b).rtcf = s.rtcf := rfl
@[simp] theorem tableToR4_sub (s : State) (b : Byte) : (s.tableToR4 b).sub = s.sub := rfl
@[simp] theorem tableToR4_stackPc (s : State) (b : Byte) : (s.tableToR4 b).stackPc = s.stackPc := rfl
@[simp] theorem tableToR4_stackCf (s : State) (b : Byte) : (s.tableToR4 b).stackCf = s.stackCf := rfl
@[simp] theorem tableToR4_tmr (s : State) (b : Byte) : (s.tableToR4 b).tmr = s.tmr := rfl
@[simp] theorem tableToR4_ton (s : State) (b : Byte) : (s.tableToR4 b).ton = s.ton := rfl
@[simp] theorem tableToR4_pa (s : State) (b : Byte) : (s.tableToR4 b).pa = s.pa := rfl
@[simp] theorem tableToR4_portc (s : State) (b : Byte) : (s.tableToR4 b).portc = s.portc := rfl
@[simp] theorem tableToR4_sndSel (s : State) (b : Byte) : (s.tableToR4 b).sndSel = s.sndSel := rfl
@[simp] theorem tableToR4_sndMode (s : State) (b : Byte) : (s.tableToR4 b).sndMode = s.sndMode := rfl
@[simp] theorem tableToR4_sndOn (s : State) (b : Byte) : (s.tableToR4 b).sndOn = s.sndOn := rfl
@[simp] theorem tableToR4_halted (s : State) (b : Byte) : (s.tableToR4 b).halted = s.halted := rfl
@[simp] theorem tableToR4_ram (s : State) (b : Byte) : (s.tableToR4 b).ram = s.ram := rfl
@[simp] theorem tableToR4_rom (s : State) (b : Byte) : (s.tableToR4 b).rom = s.rom := rfl
@[simp] theorem tableToR4_pins (s : State) (b : Byte) : (s.tableToR4 b).pins = s.pins := rfl
@[simp] theorem tableToR4_cfg (s : State) (b : Byte) : (s.tableToR4 b).cfg = s.cfg := rfl
@[simp] theorem tableToR4_schedule (s : State) (b : Byte) : (s.tableToR4 b).schedule = s.schedule := rfl
@[simp] theorem tableToR4_emitted (s : State) (b : Byte) : (s.tableToR4 b).emitted = s.emitted := rfl
@[simp] theorem tableToR4_draws (s : State) (b : Byte) : (s.tableToR4 b).draws = s.draws := rfl
@[simp] theorem tableToR4_epoch (s : State) (b : Byte) : (s.tableToR4 b).epoch = s.epoch := rfl
@[simp] theorem tableToR4_ramCell (s : State) (b : Byte) (k : Nat) : (s.tableToR4 b).ramCell k = s.ramCell k := rfl

/-! `tableToMem` -/

@[simp] theorem tableToMem_acc (s : State) (b : Byte) : (s.tableToMem b).acc = b.extractLsb' 0 4 := rfl
@[simp] theorem tableToMem_regs (s : State) (b : Byte) : (s.tableToMem b).regs = s.regs := rfl
@[simp] theorem tableToMem_pc (s : State) (b : Byte) : (s.tableToMem b).pc = s.pc := rfl
@[simp] theorem tableToMem_pb (s : State) (b : Byte) : (s.tableToMem b).pb = s.pb := rfl
@[simp] theorem tableToMem_cf (s : State) (b : Byte) : (s.tableToMem b).cf = s.cf := rfl
@[simp] theorem tableToMem_tf (s : State) (b : Byte) : (s.tableToMem b).tf = s.tf := rfl
@[simp] theorem tableToMem_ie (s : State) (b : Byte) : (s.tableToMem b).ie = s.ie := rfl
@[simp] theorem tableToMem_rtcf (s : State) (b : Byte) : (s.tableToMem b).rtcf = s.rtcf := rfl
@[simp] theorem tableToMem_sub (s : State) (b : Byte) : (s.tableToMem b).sub = s.sub := rfl
@[simp] theorem tableToMem_stackPc (s : State) (b : Byte) : (s.tableToMem b).stackPc = s.stackPc := rfl
@[simp] theorem tableToMem_stackCf (s : State) (b : Byte) : (s.tableToMem b).stackCf = s.stackCf := rfl
@[simp] theorem tableToMem_tmr (s : State) (b : Byte) : (s.tableToMem b).tmr = s.tmr := rfl
@[simp] theorem tableToMem_ton (s : State) (b : Byte) : (s.tableToMem b).ton = s.ton := rfl
@[simp] theorem tableToMem_pa (s : State) (b : Byte) : (s.tableToMem b).pa = s.pa := rfl
@[simp] theorem tableToMem_portc (s : State) (b : Byte) : (s.tableToMem b).portc = s.portc := rfl
@[simp] theorem tableToMem_sndSel (s : State) (b : Byte) : (s.tableToMem b).sndSel = s.sndSel := rfl
@[simp] theorem tableToMem_sndMode (s : State) (b : Byte) : (s.tableToMem b).sndMode = s.sndMode := rfl
@[simp] theorem tableToMem_sndOn (s : State) (b : Byte) : (s.tableToMem b).sndOn = s.sndOn := rfl
@[simp] theorem tableToMem_halted (s : State) (b : Byte) : (s.tableToMem b).halted = s.halted := rfl
@[simp] theorem tableToMem_ram (s : State) (b : Byte) : (s.tableToMem b).ram = s.ram.write (s.cell s.ptr10) (b.extractLsb' 4 4) := rfl
@[simp] theorem tableToMem_rom (s : State) (b : Byte) : (s.tableToMem b).rom = s.rom := rfl
@[simp] theorem tableToMem_pins (s : State) (b : Byte) : (s.tableToMem b).pins = s.pins := rfl
@[simp] theorem tableToMem_cfg (s : State) (b : Byte) : (s.tableToMem b).cfg = s.cfg := rfl
@[simp] theorem tableToMem_schedule (s : State) (b : Byte) : (s.tableToMem b).schedule = s.schedule := rfl
@[simp] theorem tableToMem_emitted (s : State) (b : Byte) : (s.tableToMem b).emitted = s.emitted := rfl
@[simp] theorem tableToMem_draws (s : State) (b : Byte) : (s.tableToMem b).draws = s.draws := rfl
@[simp] theorem tableToMem_epoch (s : State) (b : Byte) : (s.tableToMem b).epoch = s.epoch := rfl
@[simp] theorem tableToMem_reg (s : State) (b : Byte) (q : Reg) : (s.tableToMem b).reg q = s.reg q := rfl

/-! `callTo` -/

@[simp] theorem callTo_acc (s : State) (a : CodeAddr) : (s.callTo a).acc = s.acc := rfl
@[simp] theorem callTo_regs (s : State) (a : CodeAddr) : (s.callTo a).regs = s.regs := rfl
@[simp] theorem callTo_pc (s : State) (a : CodeAddr) : (s.callTo a).pc = a := rfl
@[simp] theorem callTo_pb (s : State) (a : CodeAddr) : (s.callTo a).pb = s.pb := rfl
@[simp] theorem callTo_cf (s : State) (a : CodeAddr) : (s.callTo a).cf = s.cf := rfl
@[simp] theorem callTo_tf (s : State) (a : CodeAddr) : (s.callTo a).tf = s.tf := rfl
@[simp] theorem callTo_ie (s : State) (a : CodeAddr) : (s.callTo a).ie = s.ie := rfl
@[simp] theorem callTo_rtcf (s : State) (a : CodeAddr) : (s.callTo a).rtcf = s.rtcf := rfl
@[simp] theorem callTo_sub (s : State) (a : CodeAddr) : (s.callTo a).sub = .call := rfl
@[simp] theorem callTo_stackPc (s : State) (a : CodeAddr) : (s.callTo a).stackPc = s.pc + 2#12 := rfl
@[simp] theorem callTo_stackCf (s : State) (a : CodeAddr) : (s.callTo a).stackCf = s.stackCf := rfl
@[simp] theorem callTo_tmr (s : State) (a : CodeAddr) : (s.callTo a).tmr = s.tmr := rfl
@[simp] theorem callTo_ton (s : State) (a : CodeAddr) : (s.callTo a).ton = s.ton := rfl
@[simp] theorem callTo_pa (s : State) (a : CodeAddr) : (s.callTo a).pa = s.pa := rfl
@[simp] theorem callTo_portc (s : State) (a : CodeAddr) : (s.callTo a).portc = s.portc := rfl
@[simp] theorem callTo_sndSel (s : State) (a : CodeAddr) : (s.callTo a).sndSel = s.sndSel := rfl
@[simp] theorem callTo_sndMode (s : State) (a : CodeAddr) : (s.callTo a).sndMode = s.sndMode := rfl
@[simp] theorem callTo_sndOn (s : State) (a : CodeAddr) : (s.callTo a).sndOn = s.sndOn := rfl
@[simp] theorem callTo_halted (s : State) (a : CodeAddr) : (s.callTo a).halted = s.halted := rfl
@[simp] theorem callTo_ram (s : State) (a : CodeAddr) : (s.callTo a).ram = s.ram := rfl
@[simp] theorem callTo_rom (s : State) (a : CodeAddr) : (s.callTo a).rom = s.rom := rfl
@[simp] theorem callTo_pins (s : State) (a : CodeAddr) : (s.callTo a).pins = s.pins := rfl
@[simp] theorem callTo_cfg (s : State) (a : CodeAddr) : (s.callTo a).cfg = s.cfg := rfl
@[simp] theorem callTo_schedule (s : State) (a : CodeAddr) : (s.callTo a).schedule = s.schedule := rfl
@[simp] theorem callTo_emitted (s : State) (a : CodeAddr) : (s.callTo a).emitted = s.emitted := rfl
@[simp] theorem callTo_draws (s : State) (a : CodeAddr) : (s.callTo a).draws = s.draws := rfl
@[simp] theorem callTo_epoch (s : State) (a : CodeAddr) : (s.callTo a).epoch = s.epoch := rfl
@[simp] theorem callTo_reg (s : State) (a : CodeAddr) (q : Reg) : (s.callTo a).reg q = s.reg q := rfl
@[simp] theorem callTo_ramCell (s : State) (a : CodeAddr) (k : Nat) : (s.callTo a).ramCell k = s.ramCell k := rfl

/-! `returnSub` -/

@[simp] theorem returnSub_acc (s : State) : s.returnSub.acc = s.acc := rfl
@[simp] theorem returnSub_regs (s : State) : s.returnSub.regs = s.regs := rfl
@[simp] theorem returnSub_pc (s : State) : s.returnSub.pc = s.stackPc := rfl
@[simp] theorem returnSub_pb (s : State) : s.returnSub.pb = s.pb := rfl
@[simp] theorem returnSub_cf (s : State) : s.returnSub.cf = s.cf := rfl
@[simp] theorem returnSub_tf (s : State) : s.returnSub.tf = s.tf := rfl
@[simp] theorem returnSub_ie (s : State) : s.returnSub.ie = s.ie := rfl
@[simp] theorem returnSub_rtcf (s : State) : s.returnSub.rtcf = s.rtcf := rfl
@[simp] theorem returnSub_sub (s : State) : s.returnSub.sub = .none := rfl
@[simp] theorem returnSub_stackPc (s : State) : s.returnSub.stackPc = s.stackPc := rfl
@[simp] theorem returnSub_stackCf (s : State) : s.returnSub.stackCf = s.stackCf := rfl
@[simp] theorem returnSub_tmr (s : State) : s.returnSub.tmr = s.tmr := rfl
@[simp] theorem returnSub_ton (s : State) : s.returnSub.ton = s.ton := rfl
@[simp] theorem returnSub_pa (s : State) : s.returnSub.pa = s.pa := rfl
@[simp] theorem returnSub_portc (s : State) : s.returnSub.portc = s.portc := rfl
@[simp] theorem returnSub_sndSel (s : State) : s.returnSub.sndSel = s.sndSel := rfl
@[simp] theorem returnSub_sndMode (s : State) : s.returnSub.sndMode = s.sndMode := rfl
@[simp] theorem returnSub_sndOn (s : State) : s.returnSub.sndOn = s.sndOn := rfl
@[simp] theorem returnSub_halted (s : State) : s.returnSub.halted = s.halted := rfl
@[simp] theorem returnSub_ram (s : State) : s.returnSub.ram = s.ram := rfl
@[simp] theorem returnSub_rom (s : State) : s.returnSub.rom = s.rom := rfl
@[simp] theorem returnSub_pins (s : State) : s.returnSub.pins = s.pins := rfl
@[simp] theorem returnSub_cfg (s : State) : s.returnSub.cfg = s.cfg := rfl
@[simp] theorem returnSub_schedule (s : State) : s.returnSub.schedule = s.schedule := rfl
@[simp] theorem returnSub_emitted (s : State) : s.returnSub.emitted = s.emitted := rfl
@[simp] theorem returnSub_draws (s : State) : s.returnSub.draws = s.draws := rfl
@[simp] theorem returnSub_epoch (s : State) : s.returnSub.epoch = s.epoch := rfl
@[simp] theorem returnSub_reg (s : State) (q : Reg) : s.returnSub.reg q = s.reg q := rfl
@[simp] theorem returnSub_ramCell (s : State) (k : Nat) : s.returnSub.ramCell k = s.ramCell k := rfl

/-! `returnInt` -/

@[simp] theorem returnInt_acc (s : State) : s.returnInt.acc = s.acc := rfl
@[simp] theorem returnInt_regs (s : State) : s.returnInt.regs = s.regs := rfl
@[simp] theorem returnInt_pc (s : State) : s.returnInt.pc = s.stackPc := rfl
@[simp] theorem returnInt_pb (s : State) : s.returnInt.pb = s.pb := rfl
@[simp] theorem returnInt_cf (s : State) : s.returnInt.cf = s.stackCf := rfl
@[simp] theorem returnInt_tf (s : State) : s.returnInt.tf = s.tf := rfl
@[simp] theorem returnInt_ie (s : State) : s.returnInt.ie = s.ie := rfl
@[simp] theorem returnInt_rtcf (s : State) : s.returnInt.rtcf = s.rtcf := rfl
@[simp] theorem returnInt_sub (s : State) : s.returnInt.sub = .none := rfl
@[simp] theorem returnInt_stackPc (s : State) : s.returnInt.stackPc = s.stackPc := rfl
@[simp] theorem returnInt_stackCf (s : State) : s.returnInt.stackCf = s.stackCf := rfl
@[simp] theorem returnInt_tmr (s : State) : s.returnInt.tmr = s.tmr := rfl
@[simp] theorem returnInt_ton (s : State) : s.returnInt.ton = s.ton := rfl
@[simp] theorem returnInt_pa (s : State) : s.returnInt.pa = s.pa := rfl
@[simp] theorem returnInt_portc (s : State) : s.returnInt.portc = s.portc := rfl
@[simp] theorem returnInt_sndSel (s : State) : s.returnInt.sndSel = s.sndSel := rfl
@[simp] theorem returnInt_sndMode (s : State) : s.returnInt.sndMode = s.sndMode := rfl
@[simp] theorem returnInt_sndOn (s : State) : s.returnInt.sndOn = s.sndOn := rfl
@[simp] theorem returnInt_halted (s : State) : s.returnInt.halted = s.halted := rfl
@[simp] theorem returnInt_ram (s : State) : s.returnInt.ram = s.ram := rfl
@[simp] theorem returnInt_rom (s : State) : s.returnInt.rom = s.rom := rfl
@[simp] theorem returnInt_pins (s : State) : s.returnInt.pins = s.pins := rfl
@[simp] theorem returnInt_cfg (s : State) : s.returnInt.cfg = s.cfg := rfl
@[simp] theorem returnInt_schedule (s : State) : s.returnInt.schedule = s.schedule := rfl
@[simp] theorem returnInt_emitted (s : State) : s.returnInt.emitted = s.emitted := rfl
@[simp] theorem returnInt_draws (s : State) : s.returnInt.draws = s.draws := rfl
@[simp] theorem returnInt_epoch (s : State) : s.returnInt.epoch = s.epoch := rfl
@[simp] theorem returnInt_reg (s : State) (q : Reg) : s.returnInt.reg q = s.reg q := rfl
@[simp] theorem returnInt_ramCell (s : State) (k : Nat) : s.returnInt.ramCell k = s.ramCell k := rfl

/-! `withoutSinks` -/

@[simp] theorem withoutSinks_acc (s : State) : s.withoutSinks.acc = s.acc := rfl
@[simp] theorem withoutSinks_regs (s : State) : s.withoutSinks.regs = s.regs := rfl
@[simp] theorem withoutSinks_pc (s : State) : s.withoutSinks.pc = s.pc := rfl
@[simp] theorem withoutSinks_pb (s : State) : s.withoutSinks.pb = s.pb := rfl
@[simp] theorem withoutSinks_cf (s : State) : s.withoutSinks.cf = s.cf := rfl
@[simp] theorem withoutSinks_tf (s : State) : s.withoutSinks.tf = s.tf := rfl
@[simp] theorem withoutSinks_ie (s : State) : s.withoutSinks.ie = s.ie := rfl
@[simp] theorem withoutSinks_rtcf (s : State) : s.withoutSinks.rtcf = s.rtcf := rfl
@[simp] theorem withoutSinks_sub (s : State) : s.withoutSinks.sub = s.sub := rfl
@[simp] theorem withoutSinks_stackPc (s : State) : s.withoutSinks.stackPc = s.stackPc := rfl
@[simp] theorem withoutSinks_stackCf (s : State) : s.withoutSinks.stackCf = s.stackCf := rfl
@[simp] theorem withoutSinks_tmr (s : State) : s.withoutSinks.tmr = s.tmr := rfl
@[simp] theorem withoutSinks_ton (s : State) : s.withoutSinks.ton = s.ton := rfl
@[simp] theorem withoutSinks_pa (s : State) : s.withoutSinks.pa = 0#4 := rfl
@[simp] theorem withoutSinks_portc (s : State) : s.withoutSinks.portc = s.portc := rfl
@[simp] theorem withoutSinks_sndSel (s : State) : s.withoutSinks.sndSel = 0#4 := rfl
@[simp] theorem withoutSinks_sndMode (s : State) : s.withoutSinks.sndMode = .one := rfl
@[simp] theorem withoutSinks_sndOn (s : State) : s.withoutSinks.sndOn = false := rfl
@[simp] theorem withoutSinks_halted (s : State) : s.withoutSinks.halted = s.halted := rfl
@[simp] theorem withoutSinks_ram (s : State) : s.withoutSinks.ram = s.ram := rfl
@[simp] theorem withoutSinks_rom (s : State) : s.withoutSinks.rom = s.rom := rfl
@[simp] theorem withoutSinks_pins (s : State) : s.withoutSinks.pins = s.pins := rfl
@[simp] theorem withoutSinks_cfg (s : State) : s.withoutSinks.cfg = s.cfg := rfl
@[simp] theorem withoutSinks_schedule (s : State) : s.withoutSinks.schedule = s.schedule := rfl
@[simp] theorem withoutSinks_emitted (s : State) : s.withoutSinks.emitted = [] := rfl
@[simp] theorem withoutSinks_draws (s : State) : s.withoutSinks.draws = s.draws := rfl
@[simp] theorem withoutSinks_epoch (s : State) : s.withoutSinks.epoch = s.epoch := rfl
@[simp] theorem withoutSinks_reg (s : State) (q : Reg) : s.withoutSinks.reg q = s.reg q := rfl
@[simp] theorem withoutSinks_ramCell (s : State) (k : Nat) : s.withoutSinks.ramCell k = s.ramCell k := rfl

/-! `sampled` -/

@[simp] theorem sampled_acc (s : State) : s.sampled.acc = s.acc := by
  unfold State.sampled; split <;> rfl
@[simp] theorem sampled_regs (s : State) : s.sampled.regs = s.regs := by
  unfold State.sampled; split <;> rfl
@[simp] theorem sampled_pc (s : State) : s.sampled.pc = s.pc := by
  unfold State.sampled; split <;> rfl
@[simp] theorem sampled_pb (s : State) : s.sampled.pb = s.pb := by
  unfold State.sampled; split <;> rfl
@[simp] theorem sampled_cf (s : State) : s.sampled.cf = s.cf := by
  unfold State.sampled; split <;> rfl
@[simp] theorem sampled_tf (s : State) : s.sampled.tf = s.tf := by
  unfold State.sampled; split <;> rfl
@[simp] theorem sampled_ie (s : State) : s.sampled.ie = s.ie := by
  unfold State.sampled; split <;> rfl
@[simp] theorem sampled_rtcf (s : State) : s.sampled.rtcf = s.rtcf := by
  unfold State.sampled; split <;> rfl
@[simp] theorem sampled_sub (s : State) : s.sampled.sub = s.sub := by
  unfold State.sampled; split <;> rfl
@[simp] theorem sampled_stackPc (s : State) : s.sampled.stackPc = s.stackPc := by
  unfold State.sampled; split <;> rfl
@[simp] theorem sampled_stackCf (s : State) : s.sampled.stackCf = s.stackCf := by
  unfold State.sampled; split <;> rfl
@[simp] theorem sampled_tmr (s : State) : s.sampled.tmr = s.tmr := by
  unfold State.sampled; split <;> rfl
@[simp] theorem sampled_ton (s : State) : s.sampled.ton = s.ton := by
  unfold State.sampled; split <;> rfl
@[simp] theorem sampled_pa (s : State) : s.sampled.pa = s.pa := by
  unfold State.sampled; split <;> rfl
@[simp] theorem sampled_portc (s : State) : s.sampled.portc = s.portc := by
  unfold State.sampled; split <;> rfl
@[simp] theorem sampled_sndSel (s : State) : s.sampled.sndSel = s.sndSel := by
  unfold State.sampled; split <;> rfl
@[simp] theorem sampled_sndMode (s : State) : s.sampled.sndMode = s.sndMode := by
  unfold State.sampled; split <;> rfl
@[simp] theorem sampled_sndOn (s : State) : s.sampled.sndOn = s.sndOn := by
  unfold State.sampled; split <;> rfl
@[simp] theorem sampled_halted (s : State) : s.sampled.halted = s.halted := by
  unfold State.sampled; split <;> rfl
@[simp] theorem sampled_ram (s : State) : s.sampled.ram = s.ram := by
  unfold State.sampled; split <;> rfl
@[simp] theorem sampled_rom (s : State) : s.sampled.rom = s.rom := by
  unfold State.sampled; split <;> rfl
@[simp] theorem sampled_pins (s : State) : s.sampled.pins = s.pins := by
  unfold State.sampled; split <;> rfl
@[simp] theorem sampled_cfg (s : State) : s.sampled.cfg = s.cfg := by
  unfold State.sampled; split <;> rfl
@[simp] theorem sampled_schedule (s : State) : s.sampled.schedule = s.schedule := by
  unfold State.sampled; split <;> rfl
@[simp] theorem sampled_emitted (s : State) : s.sampled.emitted = s.emitted := by
  unfold State.sampled; split <;> rfl
@[simp] theorem sampled_epoch (s : State) : s.sampled.epoch = s.epoch := by
  unfold State.sampled; split <;> rfl
@[simp] theorem sampled_reg (s : State) (q : Reg) : s.sampled.reg q = s.reg q := by
  unfold State.sampled; split <;> rfl
@[simp] theorem sampled_ramCell (s : State) (k : Nat) : s.sampled.ramCell k = s.ramCell k := by
  unfold State.sampled; split <;> rfl

/-! `condBranch` -/

@[simp] theorem condBranch_acc (s : State) (c : Bool) (a : HalfAddr) : (s.condBranch c a).acc = s.acc := by
  cases c <;> rfl
@[simp] theorem condBranch_regs (s : State) (c : Bool) (a : HalfAddr) : (s.condBranch c a).regs = s.regs := by
  cases c <;> rfl
@[simp] theorem condBranch_pc (s : State) (c : Bool) (a : HalfAddr) : (s.condBranch c a).pc = if c then s.branchTarget a else s.pc + 2#12 := by
  cases c <;> rfl
@[simp] theorem condBranch_pb (s : State) (c : Bool) (a : HalfAddr) : (s.condBranch c a).pb = s.pb := by
  cases c <;> rfl
@[simp] theorem condBranch_cf (s : State) (c : Bool) (a : HalfAddr) : (s.condBranch c a).cf = s.cf := by
  cases c <;> rfl
@[simp] theorem condBranch_tf (s : State) (c : Bool) (a : HalfAddr) : (s.condBranch c a).tf = s.tf := by
  cases c <;> rfl
@[simp] theorem condBranch_ie (s : State) (c : Bool) (a : HalfAddr) : (s.condBranch c a).ie = s.ie := by
  cases c <;> rfl
@[simp] theorem condBranch_rtcf (s : State) (c : Bool) (a : HalfAddr) : (s.condBranch c a).rtcf = s.rtcf := by
  cases c <;> rfl
@[simp] theorem condBranch_sub (s : State) (c : Bool) (a : HalfAddr) : (s.condBranch c a).sub = s.sub := by
  cases c <;> rfl
@[simp] theorem condBranch_stackPc (s : State) (c : Bool) (a : HalfAddr) : (s.condBranch c a).stackPc = s.stackPc := by
  cases c <;> rfl
@[simp] theorem condBranch_stackCf (s : State) (c : Bool) (a : HalfAddr) : (s.condBranch c a).stackCf = s.stackCf := by
  cases c <;> rfl
@[simp] theorem condBranch_tmr (s : State) (c : Bool) (a : HalfAddr) : (s.condBranch c a).tmr = s.tmr := by
  cases c <;> rfl
@[simp] theorem condBranch_ton (s : State) (c : Bool) (a : HalfAddr) : (s.condBranch c a).ton = s.ton := by
  cases c <;> rfl
@[simp] theorem condBranch_pa (s : State) (c : Bool) (a : HalfAddr) : (s.condBranch c a).pa = s.pa := by
  cases c <;> rfl
@[simp] theorem condBranch_portc (s : State) (c : Bool) (a : HalfAddr) : (s.condBranch c a).portc = s.portc := by
  cases c <;> rfl
@[simp] theorem condBranch_sndSel (s : State) (c : Bool) (a : HalfAddr) : (s.condBranch c a).sndSel = s.sndSel := by
  cases c <;> rfl
@[simp] theorem condBranch_sndMode (s : State) (c : Bool) (a : HalfAddr) : (s.condBranch c a).sndMode = s.sndMode := by
  cases c <;> rfl
@[simp] theorem condBranch_sndOn (s : State) (c : Bool) (a : HalfAddr) : (s.condBranch c a).sndOn = s.sndOn := by
  cases c <;> rfl
@[simp] theorem condBranch_halted (s : State) (c : Bool) (a : HalfAddr) : (s.condBranch c a).halted = s.halted := by
  cases c <;> rfl
@[simp] theorem condBranch_ram (s : State) (c : Bool) (a : HalfAddr) : (s.condBranch c a).ram = s.ram := by
  cases c <;> rfl
@[simp] theorem condBranch_rom (s : State) (c : Bool) (a : HalfAddr) : (s.condBranch c a).rom = s.rom := by
  cases c <;> rfl
@[simp] theorem condBranch_pins (s : State) (c : Bool) (a : HalfAddr) : (s.condBranch c a).pins = s.pins := by
  cases c <;> rfl
@[simp] theorem condBranch_cfg (s : State) (c : Bool) (a : HalfAddr) : (s.condBranch c a).cfg = s.cfg := by
  cases c <;> rfl
@[simp] theorem condBranch_schedule (s : State) (c : Bool) (a : HalfAddr) : (s.condBranch c a).schedule = s.schedule := by
  cases c <;> rfl
@[simp] theorem condBranch_emitted (s : State) (c : Bool) (a : HalfAddr) : (s.condBranch c a).emitted = s.emitted := by
  cases c <;> rfl
@[simp] theorem condBranch_draws (s : State) (c : Bool) (a : HalfAddr) : (s.condBranch c a).draws = s.draws := by
  cases c <;> rfl
@[simp] theorem condBranch_epoch (s : State) (c : Bool) (a : HalfAddr) : (s.condBranch c a).epoch = s.epoch := by
  cases c <;> rfl
@[simp] theorem condBranch_reg (s : State) (c : Bool) (a : HalfAddr) (q : Reg) : (s.condBranch c a).reg q = s.reg q := by
  cases c <;> rfl
@[simp] theorem condBranch_ramCell (s : State) (c : Bool) (a : HalfAddr) (k : Nat) : (s.condBranch c a).ramCell k = s.ramCell k := by
  cases c <;> rfl

/-! `takeInterrupt` -/

@[simp] theorem takeInterrupt_acc (s : State) : s.takeInterrupt.acc = s.acc := by
  unfold State.takeInterrupt; split <;> rfl
@[simp] theorem takeInterrupt_regs (s : State) : s.takeInterrupt.regs = s.regs := by
  unfold State.takeInterrupt; split <;> rfl
@[simp] theorem takeInterrupt_pc (s : State) : s.takeInterrupt.pc = if s.rtcf then 0x008#12 else 0x004#12 := by
  unfold State.takeInterrupt; split <;> simp_all
@[simp] theorem takeInterrupt_pb (s : State) : s.takeInterrupt.pb = s.pb := by
  unfold State.takeInterrupt; split <;> rfl
@[simp] theorem takeInterrupt_cf (s : State) : s.takeInterrupt.cf = s.cf := by
  unfold State.takeInterrupt; split <;> rfl
@[simp] theorem takeInterrupt_ie (s : State) : s.takeInterrupt.ie = s.ie := by
  unfold State.takeInterrupt; split <;> rfl
@[simp] theorem takeInterrupt_rtcf (s : State) : s.takeInterrupt.rtcf = false := by
  unfold State.takeInterrupt; split <;> simp_all
@[simp] theorem takeInterrupt_sub (s : State) : s.takeInterrupt.sub = .isr := by
  unfold State.takeInterrupt; split <;> rfl
@[simp] theorem takeInterrupt_stackPc (s : State) : s.takeInterrupt.stackPc = s.pc := by
  unfold State.takeInterrupt; split <;> rfl
@[simp] theorem takeInterrupt_stackCf (s : State) : s.takeInterrupt.stackCf = s.cf := by
  unfold State.takeInterrupt; split <;> rfl
@[simp] theorem takeInterrupt_tmr (s : State) : s.takeInterrupt.tmr = s.tmr := by
  unfold State.takeInterrupt; split <;> rfl
@[simp] theorem takeInterrupt_ton (s : State) : s.takeInterrupt.ton = s.ton := by
  unfold State.takeInterrupt; split <;> rfl
@[simp] theorem takeInterrupt_pa (s : State) : s.takeInterrupt.pa = s.pa := by
  unfold State.takeInterrupt; split <;> rfl
@[simp] theorem takeInterrupt_portc (s : State) : s.takeInterrupt.portc = s.portc := by
  unfold State.takeInterrupt; split <;> rfl
@[simp] theorem takeInterrupt_sndSel (s : State) : s.takeInterrupt.sndSel = s.sndSel := by
  unfold State.takeInterrupt; split <;> rfl
@[simp] theorem takeInterrupt_sndMode (s : State) : s.takeInterrupt.sndMode = s.sndMode := by
  unfold State.takeInterrupt; split <;> rfl
@[simp] theorem takeInterrupt_sndOn (s : State) : s.takeInterrupt.sndOn = s.sndOn := by
  unfold State.takeInterrupt; split <;> rfl
@[simp] theorem takeInterrupt_halted (s : State) : s.takeInterrupt.halted = s.halted := by
  unfold State.takeInterrupt; split <;> rfl
@[simp] theorem takeInterrupt_ram (s : State) : s.takeInterrupt.ram = s.ram := by
  unfold State.takeInterrupt; split <;> rfl
@[simp] theorem takeInterrupt_rom (s : State) : s.takeInterrupt.rom = s.rom := by
  unfold State.takeInterrupt; split <;> rfl
@[simp] theorem takeInterrupt_pins (s : State) : s.takeInterrupt.pins = s.pins := by
  unfold State.takeInterrupt; split <;> rfl
@[simp] theorem takeInterrupt_cfg (s : State) : s.takeInterrupt.cfg = s.cfg := by
  unfold State.takeInterrupt; split <;> rfl
@[simp] theorem takeInterrupt_schedule (s : State) : s.takeInterrupt.schedule = s.schedule := by
  unfold State.takeInterrupt; split <;> rfl
@[simp] theorem takeInterrupt_emitted (s : State) : s.takeInterrupt.emitted = s.emitted := by
  unfold State.takeInterrupt; split <;> rfl
@[simp] theorem takeInterrupt_draws (s : State) : s.takeInterrupt.draws = s.draws := by
  unfold State.takeInterrupt; split <;> rfl
@[simp] theorem takeInterrupt_epoch (s : State) : s.takeInterrupt.epoch = s.epoch := by
  unfold State.takeInterrupt; split <;> rfl
@[simp] theorem takeInterrupt_reg (s : State) (q : Reg) : s.takeInterrupt.reg q = s.reg q := by
  unfold State.takeInterrupt; split <;> rfl
@[simp] theorem takeInterrupt_ramCell (s : State) (k : Nat) : s.takeInterrupt.ramCell k = s.ramCell k := by
  unfold State.takeInterrupt; split <;> rfl

/-! `timerTick` -/

@[simp] theorem timerTick_acc (s : State) : s.timerTick.acc = s.acc := by
  unfold State.timerTick; split <;> [(split <;> rfl); rfl]
@[simp] theorem timerTick_regs (s : State) : s.timerTick.regs = s.regs := by
  unfold State.timerTick; split <;> [(split <;> rfl); rfl]
@[simp] theorem timerTick_pc (s : State) : s.timerTick.pc = s.pc := by
  unfold State.timerTick; split <;> [(split <;> rfl); rfl]
@[simp] theorem timerTick_pb (s : State) : s.timerTick.pb = s.pb := by
  unfold State.timerTick; split <;> [(split <;> rfl); rfl]
@[simp] theorem timerTick_cf (s : State) : s.timerTick.cf = s.cf := by
  unfold State.timerTick; split <;> [(split <;> rfl); rfl]
@[simp] theorem timerTick_ie (s : State) : s.timerTick.ie = s.ie := by
  unfold State.timerTick; split <;> [(split <;> rfl); rfl]
@[simp] theorem timerTick_rtcf (s : State) : s.timerTick.rtcf = s.rtcf := by
  unfold State.timerTick; split <;> [(split <;> rfl); rfl]
@[simp] theorem timerTick_sub (s : State) : s.timerTick.sub = s.sub := by
  unfold State.timerTick; split <;> [(split <;> rfl); rfl]
@[simp] theorem timerTick_stackPc (s : State) : s.timerTick.stackPc = s.stackPc := by
  unfold State.timerTick; split <;> [(split <;> rfl); rfl]
@[simp] theorem timerTick_stackCf (s : State) : s.timerTick.stackCf = s.stackCf := by
  unfold State.timerTick; split <;> [(split <;> rfl); rfl]
@[simp] theorem timerTick_ton (s : State) : s.timerTick.ton = s.ton := by
  unfold State.timerTick; split <;> [(split <;> rfl); rfl]
@[simp] theorem timerTick_pa (s : State) : s.timerTick.pa = s.pa := by
  unfold State.timerTick; split <;> [(split <;> rfl); rfl]
@[simp] theorem timerTick_portc (s : State) : s.timerTick.portc = s.portc := by
  unfold State.timerTick; split <;> [(split <;> rfl); rfl]
@[simp] theorem timerTick_sndSel (s : State) : s.timerTick.sndSel = s.sndSel := by
  unfold State.timerTick; split <;> [(split <;> rfl); rfl]
@[simp] theorem timerTick_sndMode (s : State) : s.timerTick.sndMode = s.sndMode := by
  unfold State.timerTick; split <;> [(split <;> rfl); rfl]
@[simp] theorem timerTick_sndOn (s : State) : s.timerTick.sndOn = s.sndOn := by
  unfold State.timerTick; split <;> [(split <;> rfl); rfl]
@[simp] theorem timerTick_halted (s : State) : s.timerTick.halted = s.halted := by
  unfold State.timerTick; split <;> [(split <;> rfl); rfl]
@[simp] theorem timerTick_ram (s : State) : s.timerTick.ram = s.ram := by
  unfold State.timerTick; split <;> [(split <;> rfl); rfl]
@[simp] theorem timerTick_rom (s : State) : s.timerTick.rom = s.rom := by
  unfold State.timerTick; split <;> [(split <;> rfl); rfl]
@[simp] theorem timerTick_pins (s : State) : s.timerTick.pins = s.pins := by
  unfold State.timerTick; split <;> [(split <;> rfl); rfl]
@[simp] theorem timerTick_cfg (s : State) : s.timerTick.cfg = s.cfg := by
  unfold State.timerTick; split <;> [(split <;> rfl); rfl]
@[simp] theorem timerTick_schedule (s : State) : s.timerTick.schedule = s.schedule := by
  unfold State.timerTick; split <;> [(split <;> rfl); rfl]
@[simp] theorem timerTick_emitted (s : State) : s.timerTick.emitted = s.emitted := by
  unfold State.timerTick; split <;> [(split <;> rfl); rfl]
@[simp] theorem timerTick_draws (s : State) : s.timerTick.draws = s.draws := by
  unfold State.timerTick; split <;> [(split <;> rfl); rfl]
@[simp] theorem timerTick_epoch (s : State) : s.timerTick.epoch = s.epoch := by
  unfold State.timerTick; split <;> [(split <;> rfl); rfl]
@[simp] theorem timerTick_reg (s : State) (q : Reg) : s.timerTick.reg q = s.reg q := by
  unfold State.timerTick; split <;> [(split <;> rfl); rfl]
@[simp] theorem timerTick_ramCell (s : State) (k : Nat) : s.timerTick.ramCell k = s.ramCell k := by
  unfold State.timerTick; split <;> [(split <;> rfl); rfl]

/-! `wake` -/

@[simp] theorem wake_acc (s : State) : s.wake.acc = s.acc := rfl
@[simp] theorem wake_regs (s : State) : s.wake.regs = s.regs := rfl
@[simp] theorem wake_pc (s : State) : s.wake.pc = s.pc := rfl
@[simp] theorem wake_pb (s : State) : s.wake.pb = s.pb := rfl
@[simp] theorem wake_cf (s : State) : s.wake.cf = s.cf := rfl
@[simp] theorem wake_tf (s : State) : s.wake.tf = s.tf := rfl
@[simp] theorem wake_ie (s : State) : s.wake.ie = s.ie := rfl
@[simp] theorem wake_rtcf (s : State) : s.wake.rtcf = s.rtcf := rfl
@[simp] theorem wake_sub (s : State) : s.wake.sub = s.sub := rfl
@[simp] theorem wake_stackPc (s : State) : s.wake.stackPc = s.stackPc := rfl
@[simp] theorem wake_stackCf (s : State) : s.wake.stackCf = s.stackCf := rfl
@[simp] theorem wake_tmr (s : State) : s.wake.tmr = s.tmr := rfl
@[simp] theorem wake_ton (s : State) : s.wake.ton = s.ton := rfl
@[simp] theorem wake_pa (s : State) : s.wake.pa = s.pa := rfl
@[simp] theorem wake_portc (s : State) : s.wake.portc = s.portc := rfl
@[simp] theorem wake_sndSel (s : State) : s.wake.sndSel = s.sndSel := rfl
@[simp] theorem wake_sndMode (s : State) : s.wake.sndMode = s.sndMode := rfl
@[simp] theorem wake_sndOn (s : State) : s.wake.sndOn = s.sndOn := rfl
@[simp] theorem wake_halted (s : State) : s.wake.halted = (s.halted && !s.rtcf) := rfl
@[simp] theorem wake_ram (s : State) : s.wake.ram = s.ram := rfl
@[simp] theorem wake_rom (s : State) : s.wake.rom = s.rom := rfl
@[simp] theorem wake_pins (s : State) : s.wake.pins = s.pins := rfl
@[simp] theorem wake_cfg (s : State) : s.wake.cfg = s.cfg := rfl
@[simp] theorem wake_schedule (s : State) : s.wake.schedule = s.schedule := rfl
@[simp] theorem wake_emitted (s : State) : s.wake.emitted = s.emitted := rfl
@[simp] theorem wake_draws (s : State) : s.wake.draws = s.draws := rfl
@[simp] theorem wake_epoch (s : State) : s.wake.epoch = s.epoch := rfl
@[simp] theorem wake_reg (s : State) (q : Reg) : s.wake.reg q = s.reg q := rfl
@[simp] theorem wake_ramCell (s : State) (k : Nat) : s.wake.ramCell k = s.ramCell k := rfl

@[simp] theorem takeInterrupt_tf (s : State) : s.takeInterrupt.tf = (s.rtcf && s.tf) := by
  unfold State.takeInterrupt; split <;> simp_all

@[simp] theorem sampled_draws (s : State) :
    s.sampled.draws = if s.timerUnsynchronised then s.draws + 1 else s.draws := by
  unfold State.sampled; split <;> rfl

@[simp] theorem timerTick_tmr (s : State) :
    s.timerTick.tmr = if s.ton then s.tmr + 1#8 else s.tmr := by
  unfold State.timerTick; split
  · split <;> simp_all
  · rfl

@[simp] theorem timerTick_tf (s : State) :
    s.timerTick.tf = (s.tf || (s.ton && s.tmr == 0xFF#8)) := by
  unfold State.timerTick; split
  · split <;> simp_all
  · simp_all

/-! `endSound` -/

@[simp] theorem endSound_acc (s : State) : s.endSound.acc = s.acc := rfl
@[simp] theorem endSound_regs (s : State) : s.endSound.regs = s.regs := rfl
@[simp] theorem endSound_pc (s : State) : s.endSound.pc = s.pc := rfl
@[simp] theorem endSound_pb (s : State) : s.endSound.pb = s.pb := rfl
@[simp] theorem endSound_cf (s : State) : s.endSound.cf = s.cf := rfl
@[simp] theorem endSound_tf (s : State) : s.endSound.tf = s.tf := rfl
@[simp] theorem endSound_ie (s : State) : s.endSound.ie = s.ie := rfl
@[simp] theorem endSound_rtcf (s : State) : s.endSound.rtcf = s.rtcf := rfl
@[simp] theorem endSound_sub (s : State) : s.endSound.sub = s.sub := rfl
@[simp] theorem endSound_stackPc (s : State) : s.endSound.stackPc = s.stackPc := rfl
@[simp] theorem endSound_stackCf (s : State) : s.endSound.stackCf = s.stackCf := rfl
@[simp] theorem endSound_tmr (s : State) : s.endSound.tmr = s.tmr := rfl
@[simp] theorem endSound_ton (s : State) : s.endSound.ton = s.ton := rfl
@[simp] theorem endSound_pa (s : State) : s.endSound.pa = s.pa := rfl
@[simp] theorem endSound_portc (s : State) : s.endSound.portc = s.portc := rfl
@[simp] theorem endSound_sndSel (s : State) : s.endSound.sndSel = s.sndSel := rfl
@[simp] theorem endSound_sndMode (s : State) : s.endSound.sndMode = s.sndMode := rfl
@[simp] theorem endSound_sndOn (s : State) : s.endSound.sndOn = (s.sndOn && s.sndMode != .one) := rfl
@[simp] theorem endSound_halted (s : State) : s.endSound.halted = s.halted := rfl
@[simp] theorem endSound_ram (s : State) : s.endSound.ram = s.ram := rfl
@[simp] theorem endSound_rom (s : State) : s.endSound.rom = s.rom := rfl
@[simp] theorem endSound_pins (s : State) : s.endSound.pins = s.pins := rfl
@[simp] theorem endSound_cfg (s : State) : s.endSound.cfg = s.cfg := rfl
@[simp] theorem endSound_schedule (s : State) : s.endSound.schedule = s.schedule := rfl
@[simp] theorem endSound_emitted (s : State) : s.endSound.emitted = s.emitted := rfl
@[simp] theorem endSound_draws (s : State) : s.endSound.draws = s.draws := rfl
@[simp] theorem endSound_epoch (s : State) : s.endSound.epoch = s.epoch := rfl
@[simp] theorem endSound_reg (s : State) (q : Reg) : s.endSound.reg q = s.reg q := rfl
@[simp] theorem endSound_ramCell (s : State) (k : Nat) : s.endSound.ramCell k = s.ramCell k := rfl

end Sys2Proof.Machine
end

