-- ==== Sys2Proof/Laws/Memory.lean ====
section
/-! SUPPORT. Reading after writing, and the canonical form of memories. -/

namespace Sys2Proof

theorem memory_read_write_same {α : Type} (m : Memory α) (a : Nat) (v : α) :
    (m.write a v).read a = some v := by
  induction m with
  | nil => simp [Memory.write, Memory.read]
  | cons kv m ih =>
    obtain ⟨k, w⟩ := kv
    unfold Memory.write
    split
    · simp [Memory.read]
    · split
      · simp [Memory.read]
      · simp [Memory.read, *]

theorem memory_read_write_other {α : Type} (m : Memory α) {a b : Nat} (v : α) (h : b ≠ a) :
    (m.write a v).read b = m.read b := by
  induction m with
  | nil => simp [Memory.write, Memory.read, h]
  | cons kv m ih =>
    obtain ⟨k, w⟩ := kv
    unfold Memory.write
    split
    · simp [Memory.read, h]
    · split
      · subst_vars; simp [Memory.read, h]
      · simp [Memory.read, ih]

theorem memory_keys_write {α : Type} (m : Memory α) (a : Nat) (v : α) (k : Nat) :
    k ∈ (m.write a v).map Prod.fst ↔ k = a ∨ k ∈ m.map Prod.fst := by
  induction m with
  | nil => simp [Memory.write]
  | cons kv m ih =>
    obtain ⟨j, w⟩ := kv
    unfold Memory.write
    split
    · simp
    · split
      · subst_vars; simp
      · rw [List.map_cons, List.mem_cons, ih, List.map_cons, List.mem_cons]; tauto

theorem memory_write_rising {α : Type} (m : Memory α) (a : Nat) (v : α)
    (h : (m.map Prod.fst).Pairwise (· < ·)) :
    ((m.write a v).map Prod.fst).Pairwise (· < ·) := by
  induction m with
  | nil => simp [Memory.write]
  | cons kv m ih =>
    obtain ⟨j, w⟩ := kv
    rw [List.map_cons, List.pairwise_cons] at h
    unfold Memory.write
    split
    · rename_i hlt
      rw [List.map_cons, List.pairwise_cons, List.map_cons, List.pairwise_cons]
      refine ⟨fun k hk => ?_, h⟩
      rcases List.mem_cons.1 hk with rfl | hk
      · exact hlt
      · exact lt_trans hlt (h.1 k hk)
    · split
      · subst_vars
        rw [List.map_cons, List.pairwise_cons]
        exact h
      · rw [List.map_cons, List.pairwise_cons]
        refine ⟨fun k hk => ?_, ih h.2⟩
        rcases (memory_keys_write m a v k).1 hk with rfl | hk
        · show j < k
          omega
        · exact h.1 k hk

/-- Every write keeps the canonical form. -/
theorem memory_write_wf {α : Type} {size : Nat} (m : Memory α) {a : Nat} (v : α)
    (h : m.wf size) (ha : a < size) : (m.write a v).wf size := by
  refine ⟨memory_write_rising m a v h.1, fun k hk => ?_⟩
  rcases (memory_keys_write m a v k).1 hk with rfl | hk
  · exact ha
  · exact h.2 k hk

namespace Machine

/-- A data address names one of the 384 cells. -/
theorem cell_lt_ramSize (s : State) (a : Byte) : s.cell a < ramSize := by
  have h := (a.extractLsb' 0 7).isLt
  unfold State.cell ramSize
  split
  · omega
  · split <;> omega

/-- A program address names one of the 16384 bytes. -/
theorem romIndex_lt_romSize (s : State) (a : CodeAddr) : s.romIndex a < romSize := by
  have h := (s.pb ++ a : BitVec 14).isLt
  unfold State.romIndex romSize
  omega

/-- What a cell reads as after a store. -/
theorem memWrite_ramCell (s : State) (a : Byte) (v : Nibble) (k : Nat) :
    (s.memWrite a v).ramCell k = if k = s.cell a then v else s.ramCell k := by
  unfold State.ramCell
  simp only [memWrite_ram, memWrite_epoch]
  split
  · subst_vars; rw [memory_read_write_same]; rfl
  · rw [memory_read_write_other _ _ ‹_›]

@[simp] theorem memWrite_ramCell_same (s : State) (a : Byte) (v : Nibble) :
    (s.memWrite a v).ramCell (s.cell a) = v := by
  rw [memWrite_ramCell, if_pos rfl]

/-- A store leaves every other cell alone. -/
theorem memWrite_ramCell_other (s : State) (a : Byte) (v : Nibble) {k : Nat} (h : k ≠ s.cell a) :
    (s.memWrite a v).ramCell k = s.ramCell k := by
  rw [memWrite_ramCell, if_neg h]

@[simp] theorem tableToMem_ramCell (s : State) (b : Byte) (k : Nat) :
    (s.tableToMem b).ramCell k =
      if k = s.cell s.ptr10 then b.extractLsb' 4 4 else s.ramCell k := by
  have h : (s.tableToMem b).ramCell k = (s.memWrite s.ptr10 (b.extractLsb' 4 4)).ramCell k := rfl
  rw [h, memWrite_ramCell]

/-- A store keeps the canonical form. -/
theorem memWrite_wf (s : State) (a : Byte) (v : Nibble) (h : s.ram.wf ramSize) :
    (s.memWrite a v).ram.wf ramSize := by
  rw [memWrite_ram]; exact memory_write_wf _ _ h (cell_lt_ramSize s a)

/-- A register written reads as what was written. -/
@[simp] theorem setReg_reg (s : State) (r q : Reg) (v : Nibble) :
    (s.setReg r v).reg q = if q = r then v else s.reg q := by
  cases r <;> cases q <;> rfl

@[simp] theorem setPair_reg (s : State) (hi lo q : Reg) (v : Byte) :
    (s.setPair hi lo v).reg q =
      if q = lo then v.extractLsb' 0 4 else if q = hi then v.extractLsb' 4 4 else s.reg q := by
  have h : (s.setPair hi lo v).reg q =
      ((s.setReg hi (v.extractLsb' 4 4)).setReg lo (v.extractLsb' 0 4)).reg q := rfl
  rw [h, setReg_reg, setReg_reg]

@[simp] theorem tableToR4_reg (s : State) (b : Byte) (q : Reg) :
    (s.tableToR4 b).reg q = if q = .r4 then b.extractLsb' 4 4 else s.reg q := by
  have h : (s.tableToR4 b).reg q = (s.setReg .r4 (b.extractLsb' 4 4)).reg q := rfl
  rw [h, setReg_reg]

/-- The machine after reset has its memories in canonical form. -/
theorem reset_memories_listed_nothing : State.reset.ram = [] ∧ State.reset.rom = [] := ⟨rfl, rfl⟩

end Machine

end Sys2Proof
end

