-- ==== Sys2Proof/Laws/Ops.lean ====
section
/-! SUPPORT. The shared operations in numbers: sums and carries, addresses, and the frame of a state that
agrees field by field. -/

namespace Sys2Proof.Machine

/-- The 5-bit sum as a number (R120). -/
theorem add4_toNat (a b : Nibble) (c : Bool) :
    (add4 a b c).toNat = a.toNat + b.toNat + c.toNat := by
  have ha := a.isLt
  have hb := b.isLt
  unfold add4
  cases c <;> simp [BitVec.toNat_add] <;> omega

/-- The result of an addition as a number (R120). -/
theorem addOut_value (a b : Nibble) (c : Bool) :
    (addOut a b c).value.toNat = (a.toNat + b.toNat + c.toNat) % 16 := by
  unfold addOut
  simp [add4_toNat]

/-- The carry of an addition (R120): the sum does not fit 4 bits. -/
theorem addOut_carry (a b : Nibble) (c : Bool) :
    (addOut a b c).carry = decide (16 ≤ a.toNat + b.toNat + c.toNat) := by
  have h := add4_toNat a b c
  have hlt := (add4 a b c).isLt
  unfold addOut
  dsimp only
  rw [BitVec.getLsbD, h, Nat.testBit_eq_decide_div_mod_eq]
  apply decide_eq_decide.2
  omega

/-- The 4-bit complement as a number. -/
theorem compl_toNat (b : Nibble) : (~~~b).toNat = 15 - b.toNat := by
  simp [BitVec.toNat_not]

/-- The cell number by the numeric data address (R67). -/
theorem cell_eq (s : State) (a : Byte) :
    s.cell a =
      if 128 ≤ a.toNat then a.toNat + 128
      else if s.portc.getLsbD 0 then a.toNat + 128 else a.toNat := by
  have h7 : a.getLsbD 7 = decide (128 ≤ a.toNat) := by
    have := a.isLt
    rw [BitVec.getLsbD, Nat.testBit_eq_decide_div_mod_eq]
    apply decide_eq_decide.2
    omega
  have h := a.isLt
  have hx : (a.extractLsb' 0 7).toNat = a.toNat % 128 := by simp
  unfold State.cell
  rw [hx, h7]
  by_cases hb : 128 ≤ a.toNat
  · simp only [hb, decide_true, if_true]; omega
  · simp only [hb, decide_false, if_false, Bool.false_eq_true]
    split <;> omega

/-- Subtraction (R123): the result modulo 16; the carry says that there was no borrow. -/
theorem subOut_spec (a b : Nibble) :
    (subOut a b).value.toNat = (16 + a.toNat - b.toNat) % 16 ∧
      (subOut a b).carry = decide (b.toNat ≤ a.toNat) := by
  have ha := a.isLt
  have hb := b.isLt
  unfold subOut
  rw [addOut_value, addOut_carry, compl_toNat]
  refine ⟨?_, decide_eq_decide.2 ?_⟩ <;> simp <;> omega

/-- Subtraction with borrow (R124): CF = 0 takes one more away. -/
theorem sbcOut_spec (a b : Nibble) (c : Bool) :
    (sbcOut a b c).value.toNat = (16 + a.toNat - b.toNat - (!c).toNat) % 16 ∧
      (sbcOut a b c).carry = decide (b.toNat + (!c).toNat ≤ a.toNat) := by
  have ha := a.isLt
  have hb := b.isLt
  unfold sbcOut
  rw [addOut_value, addOut_carry, compl_toNat]
  cases c <;> refine ⟨?_, decide_eq_decide.2 ?_⟩ <;> simp <;> omega

/-- Rotations, bit by bit (R176-R179). -/
theorem rlcOut_bits : ∀ (a : Nibble) (c : Bool),
    (∀ n, n < 3 → (rlcOut a c).value.getLsbD (n + 1) = a.getLsbD n) ∧
      (rlcOut a c).value.getLsbD 0 = c := by decide

theorem rlOut_eq_rlcOut : ∀ a : Nibble, rlOut a = rlcOut a (a.getLsbD 3) := by decide

theorem rrcOut_bits : ∀ (a : Nibble) (c : Bool),
    (∀ n, n < 3 → (rrcOut a c).value.getLsbD n = a.getLsbD (n + 1)) ∧
      (rrcOut a c).value.getLsbD 3 = c := by decide

theorem rrOut_eq_rrcOut : ∀ a : Nibble, rrOut a = rrcOut a (a.getLsbD 0) := by decide

/-- The high nibble of a byte made of two. -/
theorem append_high (x y : Nibble) : (x ++ y : Byte).extractLsb' 4 4 = x := by
  revert x y; decide

/-- The low nibble of a byte made of two. -/
theorem append_low (x y : Nibble) : (x ++ y : Byte).extractLsb' 0 4 = y := by
  revert x y; decide

/-- A byte is made of its two nibbles. -/
theorem append_nibbles (x : Byte) : x.extractLsb' 4 4 ++ x.extractLsb' 0 4 = x := by
  revert x; decide

/-- A byte's number from its two nibbles. -/
theorem toNat_nibbles (b : Byte) :
    b.toNat = 16 * (b.extractLsb' 4 4).toNat + (b.extractLsb' 0 4).toNat := by
  revert b; decide

/-- A second byte of 10H or more has a non-zero high nibble (R105). -/
theorem high_nibble_ne_zero {b : Byte} (h : 0x10 ≤ b.toNat) : b.extractLsb' 4 4 ≠ 0#4 := by
  intro hh
  have := congrArg BitVec.toNat hh
  simp at this
  have := b.isLt
  omega

/-- Different data addresses name different cells (R67). -/
theorem cell_inj (s : State) (a b : Byte) : s.cell a = s.cell b ↔ a = b := by
  constructor
  · rw [cell_eq, cell_eq]
    intro h
    apply BitVec.eq_of_toNat_eq
    have := a.isLt
    have := b.isLt
    split at h <;> split at h <;> (try split at h) <;> omega
  · rintro rfl; rfl

/-- The program-memory index in numbers (R25). -/
theorem romIndex_eq (s : State) (a : CodeAddr) :
    s.romIndex a = s.pb.toNat * 4096 + a.toNat := by
  have h := a.isLt
  unfold State.romIndex
  rw [BitVec.toNat_append, Nat.shiftLeft_eq, Nat.mul_comm, ← Nat.two_pow_add_eq_or_of_lt h]

/-- Two states that agree on every piece of state not listed. -/
theorem changesOnly_refl (listed : List Field) (s : State) : ChangesOnly listed s s := by
  intro f _
  cases f <;> rfl

/-- Frames compose. -/
theorem changesOnly_trans {listed : List Field} {s t u : State} (h1 : ChangesOnly listed s t)
    (h2 : ChangesOnly listed t u) : ChangesOnly listed s u := by
  intro f hf
  have a := h1 f hf
  have b := h2 f hf
  cases f <;> exact Eq.trans b a

/-- A frame holds for every longer list. -/
theorem changesOnly_mono {short long : List Field} {s t : State} (h : ChangesOnly short s t)
    (hs : ∀ f ∈ short, f ∈ long) : ChangesOnly long s t :=
  fun f hf => h f (fun hm => hf (hs f hm))

/-- A conditional branch goes where R196 says. -/
theorem condBranch_goes (s : State) (taken : Bool) (a : HalfAddr) :
    branchGoesTo s taken a (s.condBranch taken a) := by
  have hp := s.pc.isLt
  have ha := a.isLt
  unfold branchGoesTo State.condBranch
  cases taken
  · simp [BitVec.toNat_add]
  · simp only [if_true, jump_pc, State.branchTarget, State.npc]
    rw [BitVec.toNat_append, Nat.shiftLeft_eq, Nat.mul_comm, ← Nat.two_pow_add_eq_or_of_lt a.isLt]
    simp [BitVec.toNat_add, Nat.shiftRight_eq_div_pow]
    omega

/-- A conditional branch writes the program counter alone. -/
theorem condBranch_changesOnly (s : State) (taken : Bool) (a : HalfAddr) :
    ChangesOnly [.pc] s (s.condBranch taken a) := by
  intro f hf
  unfold State.condBranch
  cases taken <;> cases f <;> simp_all [Field.same]

/-- The current page of READ in numbers (R233). -/
theorem currentPage_eq (s : State) : s.currentPage.toNat = pageAfter s := by
  have := s.pc.isLt
  simp [State.currentPage, pageAfter, State.npc, BitVec.toNat_add, Nat.shiftRight_eq_div_pow]
  omega

/-- The byte of a table read by its 14-bit address (R232). -/
theorem tableByte_eq (s : State) (page low : Nibble) :
    s.tableByte page low = s.romByte (tableAddress s page.toNat low.toNat) := by
  have h2 := s.acc.isLt
  have h3 := low.isLt
  have h : (page ++ s.acc ++ low : CodeAddr).toNat =
      page.toNat * 256 + s.acc.toNat * 16 + low.toNat := by
    rw [BitVec.toNat_append, BitVec.toNat_append, Nat.shiftLeft_eq, Nat.shiftLeft_eq,
      Nat.mul_comm _ (2 ^ 4), Nat.mul_comm page.toNat (2 ^ 4), ← Nat.two_pow_add_eq_or_of_lt h2,
      ← Nat.two_pow_add_eq_or_of_lt h3]
    omega
  unfold State.tableByte State.romRead tableAddress
  rw [romIndex_eq, h]
  exact congrArg s.romByte (by omega)

/-- One tick of a running timer (R270). -/
theorem timerTick_running (s : State) (h : s.ton = true) :
    s.timerTick.ton = true ∧ s.timerTick.tmr.toNat = (s.tmr.toNat + 1) % 256 ∧
      (s.timerTick.tf = true ↔ s.tf = true ∨ s.tmr.toNat = 255) := by
  have := s.tmr.isLt
  by_cases h2 : s.tmr = 255#8
  · simp [State.timerTick, h, h2]
  · have : s.tmr.toNat ≠ 255 := fun k => h2 (BitVec.eq_of_toNat_eq k)
    simp [State.timerTick, h, h2, BitVec.toNat_add, this]

/-- A stopped timer ignores a tick (R227). -/
theorem timerTick_stopped (s : State) (h : s.ton = false) : s.timerTick = s := by
  simp [State.timerTick, h]

/-- A tick writes TMR and TF alone. -/
theorem timerTick_changesOnly (s : State) : ChangesOnly [.tmr, .tf] s s.timerTick := by
  intro f hf
  unfold State.timerTick
  split <;> (try split) <;> cases f <;> simp_all [Field.same] <;> rfl

end Sys2Proof.Machine
end

