-- ==== Sys2Proof/Laws/PerInstr.lean ====
section
/-! SUPPORT. Laws stated per instruction: the first byte alone fixes the length (R90, R92). -/

namespace Sys2Proof.Laws

/-- The instruction is one byte, or two when its first byte says so (R90, R92). -/
def EncodedLength.Statement (i : Instr) : Prop :=
  ∃ b tail, encode i = b :: tail ∧ tail.length = if isTwoByte b then 1 else 0

/-- A first byte at or above 80H begins a two-byte instruction. -/
theorem isTwoByte_of_high (b : Byte) (h : b.getLsbD 7 = true) : isTwoByte b = true := by
  revert h; revert b; decide

theorem isTwoByte_of_pair1 (d : Nibble) : isTwoByte (0x5#4 ++ d) = true := by
  revert d; decide

theorem isTwoByte_of_pair2 (d : Nibble) : isTwoByte (0x6#4 ++ d) = true := by
  revert d; decide

theorem not_isTwoByte_movAImm (d : Nibble) : isTwoByte (0x7#4 ++ d) = false := by
  revert d; decide

theorem isTwoByte_of_cond (c : BitVec 5) (h : c.getLsbD 4 = true) (x : BitVec 3) :
    isTwoByte (c ++ x) = true := by
  apply isTwoByte_of_high
  revert h; revert x; revert c; decide

theorem isTwoByte_of_jump (c : Nibble) (h : c.getLsbD 3 = true) (x : Nibble) :
    isTwoByte (c ++ x) = true := by
  apply isTwoByte_of_high
  revert h; revert x; revert c; decide

theorem encodeCond_length (i : Instr) (c : BitVec 5) (a : HalfAddr) (hi : encode i = encodeCond c a)
    (h : c.getLsbD 4 = true) : EncodedLength.Statement i :=
  ⟨_, _, hi, by rw [isTwoByte_of_cond c h]; rfl⟩

theorem EncodedLength.rrA : EncodedLength.Statement .rrA :=
  ⟨_, _, rfl, rfl⟩

theorem EncodedLength.rlA : EncodedLength.Statement .rlA :=
  ⟨_, _, rfl, rfl⟩

theorem EncodedLength.rrcA : EncodedLength.Statement .rrcA :=
  ⟨_, _, rfl, rfl⟩

theorem EncodedLength.rlcA : EncodedLength.Statement .rlcA :=
  ⟨_, _, rfl, rfl⟩

theorem EncodedLength.movAMem10 : EncodedLength.Statement .movAMem10 :=
  ⟨_, _, rfl, rfl⟩

theorem EncodedLength.movMem10A : EncodedLength.Statement .movMem10A :=
  ⟨_, _, rfl, rfl⟩

theorem EncodedLength.movAMem32 : EncodedLength.Statement .movAMem32 :=
  ⟨_, _, rfl, rfl⟩

theorem EncodedLength.movMem32A : EncodedLength.Statement .movMem32A :=
  ⟨_, _, rfl, rfl⟩

theorem EncodedLength.adcAMem : EncodedLength.Statement .adcAMem :=
  ⟨_, _, rfl, rfl⟩

theorem EncodedLength.addAMem : EncodedLength.Statement .addAMem :=
  ⟨_, _, rfl, rfl⟩

theorem EncodedLength.sbcAMem : EncodedLength.Statement .sbcAMem :=
  ⟨_, _, rfl, rfl⟩

theorem EncodedLength.subAMem : EncodedLength.Statement .subAMem :=
  ⟨_, _, rfl, rfl⟩

theorem EncodedLength.incMem10 : EncodedLength.Statement .incMem10 :=
  ⟨_, _, rfl, rfl⟩

theorem EncodedLength.decMem10 : EncodedLength.Statement .decMem10 :=
  ⟨_, _, rfl, rfl⟩

theorem EncodedLength.incMem32 : EncodedLength.Statement .incMem32 :=
  ⟨_, _, rfl, rfl⟩

theorem EncodedLength.decMem32 : EncodedLength.Statement .decMem32 :=
  ⟨_, _, rfl, rfl⟩

theorem EncodedLength.incR0 : EncodedLength.Statement .incR0 :=
  ⟨_, _, rfl, rfl⟩

theorem EncodedLength.decR0 : EncodedLength.Statement .decR0 :=
  ⟨_, _, rfl, rfl⟩

theorem EncodedLength.incR1 : EncodedLength.Statement .incR1 :=
  ⟨_, _, rfl, rfl⟩

theorem EncodedLength.decR1 : EncodedLength.Statement .decR1 :=
  ⟨_, _, rfl, rfl⟩

theorem EncodedLength.incR2 : EncodedLength.Statement .incR2 :=
  ⟨_, _, rfl, rfl⟩

theorem EncodedLength.decR2 : EncodedLength.Statement .decR2 :=
  ⟨_, _, rfl, rfl⟩

theorem EncodedLength.incR3 : EncodedLength.Statement .incR3 :=
  ⟨_, _, rfl, rfl⟩

theorem EncodedLength.decR3 : EncodedLength.Statement .decR3 :=
  ⟨_, _, rfl, rfl⟩

theorem EncodedLength.incR4 : EncodedLength.Statement .incR4 :=
  ⟨_, _, rfl, rfl⟩

theorem EncodedLength.decR4 : EncodedLength.Statement .decR4 :=
  ⟨_, _, rfl, rfl⟩

theorem EncodedLength.andAMem : EncodedLength.Statement .andAMem :=
  ⟨_, _, rfl, rfl⟩

theorem EncodedLength.xorAMem : EncodedLength.Statement .xorAMem :=
  ⟨_, _, rfl, rfl⟩

theorem EncodedLength.orAMem : EncodedLength.Statement .orAMem :=
  ⟨_, _, rfl, rfl⟩

theorem EncodedLength.andMemA : EncodedLength.Statement .andMemA :=
  ⟨_, _, rfl, rfl⟩

theorem EncodedLength.xorMemA : EncodedLength.Statement .xorMemA :=
  ⟨_, _, rfl, rfl⟩

theorem EncodedLength.orMemA : EncodedLength.Statement .orMemA :=
  ⟨_, _, rfl, rfl⟩

theorem EncodedLength.movR0A : EncodedLength.Statement .movR0A :=
  ⟨_, _, rfl, rfl⟩

theorem EncodedLength.movAR0 : EncodedLength.Statement .movAR0 :=
  ⟨_, _, rfl, rfl⟩

theorem EncodedLength.movR1A : EncodedLength.Statement .movR1A :=
  ⟨_, _, rfl, rfl⟩

theorem EncodedLength.movAR1 : EncodedLength.Statement .movAR1 :=
  ⟨_, _, rfl, rfl⟩

theorem EncodedLength.movR2A : EncodedLength.Statement .movR2A :=
  ⟨_, _, rfl, rfl⟩

theorem EncodedLength.movAR2 : EncodedLength.Statement .movAR2 :=
  ⟨_, _, rfl, rfl⟩

theorem EncodedLength.movR3A : EncodedLength.Statement .movR3A :=
  ⟨_, _, rfl, rfl⟩

theorem EncodedLength.movAR3 : EncodedLength.Statement .movAR3 :=
  ⟨_, _, rfl, rfl⟩

theorem EncodedLength.movR4A : EncodedLength.Statement .movR4A :=
  ⟨_, _, rfl, rfl⟩

theorem EncodedLength.movAR4 : EncodedLength.Statement .movAR4 :=
  ⟨_, _, rfl, rfl⟩

theorem EncodedLength.clc : EncodedLength.Statement .clc :=
  ⟨_, _, rfl, rfl⟩

theorem EncodedLength.stc : EncodedLength.Statement .stc :=
  ⟨_, _, rfl, rfl⟩

theorem EncodedLength.ei : EncodedLength.Statement .ei :=
  ⟨_, _, rfl, rfl⟩

theorem EncodedLength.di : EncodedLength.Statement .di :=
  ⟨_, _, rfl, rfl⟩

theorem EncodedLength.ret : EncodedLength.Statement .ret :=
  ⟨_, _, rfl, rfl⟩

theorem EncodedLength.reti : EncodedLength.Statement .reti :=
  ⟨_, _, rfl, rfl⟩

theorem EncodedLength.outPAA : EncodedLength.Statement .outPAA :=
  ⟨_, _, rfl, rfl⟩

theorem EncodedLength.incA : EncodedLength.Statement .incA :=
  ⟨_, _, rfl, rfl⟩

theorem EncodedLength.inAPM : EncodedLength.Statement .inAPM :=
  ⟨_, _, rfl, rfl⟩

theorem EncodedLength.inAPS : EncodedLength.Statement .inAPS :=
  ⟨_, _, rfl, rfl⟩

theorem EncodedLength.outPCA : EncodedLength.Statement .outPCA :=
  ⟨_, _, rfl, rfl⟩

theorem EncodedLength.daa : EncodedLength.Statement .daa :=
  ⟨_, _, rfl, rfl⟩

theorem EncodedLength.halt : EncodedLength.Statement .halt :=
  ⟨_, _, rfl, rfl⟩

theorem EncodedLength.timerOn : EncodedLength.Statement .timerOn :=
  ⟨_, _, rfl, rfl⟩

theorem EncodedLength.timerOff : EncodedLength.Statement .timerOff :=
  ⟨_, _, rfl, rfl⟩

theorem EncodedLength.movATmrl : EncodedLength.Statement .movATmrl :=
  ⟨_, _, rfl, rfl⟩

theorem EncodedLength.movATmrh : EncodedLength.Statement .movATmrh :=
  ⟨_, _, rfl, rfl⟩

theorem EncodedLength.movTmrlA : EncodedLength.Statement .movTmrlA :=
  ⟨_, _, rfl, rfl⟩

theorem EncodedLength.movTmrhA : EncodedLength.Statement .movTmrhA :=
  ⟨_, _, rfl, rfl⟩

theorem EncodedLength.nop : EncodedLength.Statement .nop :=
  ⟨_, _, rfl, rfl⟩

theorem EncodedLength.decA : EncodedLength.Statement .decA :=
  ⟨_, _, rfl, rfl⟩

theorem EncodedLength.addAImm (x : Nibble) : EncodedLength.Statement (.addAImm x) :=
  ⟨_, _, rfl, rfl⟩

theorem EncodedLength.subAImm (x : Nibble) : EncodedLength.Statement (.subAImm x) :=
  ⟨_, _, rfl, rfl⟩

theorem EncodedLength.andAImm (x : Nibble) : EncodedLength.Statement (.andAImm x) :=
  ⟨_, _, rfl, rfl⟩

theorem EncodedLength.xorAImm (x : Nibble) : EncodedLength.Statement (.xorAImm x) :=
  ⟨_, _, rfl, rfl⟩

theorem EncodedLength.orAImm (x : Nibble) : EncodedLength.Statement (.orAImm x) :=
  ⟨_, _, rfl, rfl⟩

theorem EncodedLength.soundN (n : Nibble) : EncodedLength.Statement (.soundN n) :=
  ⟨_, _, rfl, rfl⟩

theorem EncodedLength.movR4Imm (x : Nibble) : EncodedLength.Statement (.movR4Imm x) :=
  ⟨_, _, rfl, rfl⟩

theorem EncodedLength.timerImm (xx : Byte) : EncodedLength.Statement (.timerImm xx) :=
  ⟨_, _, rfl, rfl⟩

theorem EncodedLength.soundOne : EncodedLength.Statement .soundOne :=
  ⟨_, _, rfl, rfl⟩

theorem EncodedLength.soundLoop : EncodedLength.Statement .soundLoop :=
  ⟨_, _, rfl, rfl⟩

theorem EncodedLength.soundOff : EncodedLength.Statement .soundOff :=
  ⟨_, _, rfl, rfl⟩

theorem EncodedLength.soundA : EncodedLength.Statement .soundA :=
  ⟨_, _, rfl, rfl⟩

theorem EncodedLength.readR4A : EncodedLength.Statement .readR4A :=
  ⟨_, _, rfl, rfl⟩

theorem EncodedLength.readfR4A : EncodedLength.Statement .readfR4A :=
  ⟨_, _, rfl, rfl⟩

theorem EncodedLength.readMR0A : EncodedLength.Statement .readMR0A :=
  ⟨_, _, rfl, rfl⟩

theorem EncodedLength.readfMR0A : EncodedLength.Statement .readfMR0A :=
  ⟨_, _, rfl, rfl⟩

theorem EncodedLength.movR1R0Imm (d1 : Nibble) (d2 : Nibble) : EncodedLength.Statement (.movR1R0Imm d1 d2) :=
  ⟨_, _, rfl, by rw [isTwoByte_of_pair1]; rfl⟩

theorem EncodedLength.movR3R2Imm (d1 : Nibble) (d2 : Nibble) : EncodedLength.Statement (.movR3R2Imm d1 d2) :=
  ⟨_, _, rfl, by rw [isTwoByte_of_pair2]; rfl⟩

theorem EncodedLength.movAImm (x : Nibble) : EncodedLength.Statement (.movAImm x) :=
  ⟨_, _, rfl, by rw [not_isTwoByte_movAImm]; rfl⟩

theorem EncodedLength.ja0 (addr : HalfAddr) : EncodedLength.Statement (.ja0 addr) :=
  encodeCond_length _ 0b10000#5 addr rfl rfl

theorem EncodedLength.ja1 (addr : HalfAddr) : EncodedLength.Statement (.ja1 addr) :=
  encodeCond_length _ 0b10001#5 addr rfl rfl

theorem EncodedLength.ja2 (addr : HalfAddr) : EncodedLength.Statement (.ja2 addr) :=
  encodeCond_length _ 0b10010#5 addr rfl rfl

theorem EncodedLength.ja3 (addr : HalfAddr) : EncodedLength.Statement (.ja3 addr) :=
  encodeCond_length _ 0b10011#5 addr rfl rfl

theorem EncodedLength.jnzR0 (addr : HalfAddr) : EncodedLength.Statement (.jnzR0 addr) :=
  encodeCond_length _ 0b10100#5 addr rfl rfl

theorem EncodedLength.jnzR1 (addr : HalfAddr) : EncodedLength.Statement (.jnzR1 addr) :=
  encodeCond_length _ 0b10101#5 addr rfl rfl

theorem EncodedLength.jzA (addr : HalfAddr) : EncodedLength.Statement (.jzA addr) :=
  encodeCond_length _ 0b10110#5 addr rfl rfl

theorem EncodedLength.jnzA (addr : HalfAddr) : EncodedLength.Statement (.jnzA addr) :=
  encodeCond_length _ 0b10111#5 addr rfl rfl

theorem EncodedLength.jc (addr : HalfAddr) : EncodedLength.Statement (.jc addr) :=
  encodeCond_length _ 0b11000#5 addr rfl rfl

theorem EncodedLength.jnc (addr : HalfAddr) : EncodedLength.Statement (.jnc addr) :=
  encodeCond_length _ 0b11001#5 addr rfl rfl

theorem EncodedLength.jtmr (addr : HalfAddr) : EncodedLength.Statement (.jtmr addr) :=
  encodeCond_length _ 0b11010#5 addr rfl rfl

theorem EncodedLength.jnzR4 (addr : HalfAddr) : EncodedLength.Statement (.jnzR4 addr) :=
  encodeCond_length _ 0b11011#5 addr rfl rfl

theorem EncodedLength.jmp (addr : CodeAddr) : EncodedLength.Statement (.jmp addr) :=
  ⟨_, _, rfl, by rw [isTwoByte_of_jump _ rfl]; rfl⟩

theorem EncodedLength.call (addr : CodeAddr) : EncodedLength.Statement (.call addr) :=
  ⟨_, _, rfl, by rw [isTwoByte_of_jump _ rfl]; rfl⟩

end Sys2Proof.Laws
end

