-- ==== Sys2Proof/Laws/Step.lean ====
section
/-! SUPPORT. What the boundary and a step can do, said once. -/

namespace Sys2Proof.Machine

/-- One event leaves the ROM, the options and the schedule alone, and keeps or empties data memory. -/
theorem applyEvent_keeps (s : State) (e : Event) :
    (s.applyEvent e).rom = s.rom ∧ (s.applyEvent e).cfg = s.cfg ∧
      (s.applyEvent e).schedule = s.schedule ∧
      ((s.applyEvent e).ram = s.ram ∨ (s.applyEvent e).ram = []) := by
  cases e
  case internalTick =>
    unfold State.applyEvent
    dsimp only
    split
    · simp
    · split <;> simp
  case tmclkRise =>
    unfold State.applyEvent
    dsimp only
    split
    · split <;> simp
    · simp
  case rtc => exact ⟨rfl, rfl, rfl, .inl rfl⟩
  case pins p => exact ⟨rfl, rfl, rfl, .inl rfl⟩
  case soundEnd => unfold State.applyEvent; dsimp only; split <;> simp
  case writePB v => unfold State.applyEvent; dsimp only; split <;> simp
  case resLow => exact ⟨rfl, rfl, rfl, .inr rfl⟩

theorem applyEvents_nil (s : State) : s.applyEvents [] = s := rfl

theorem applyEvents_cons (s : State) (e : Event) (es : List Event) :
    s.applyEvents (e :: es) = (s.applyEvent e).wake.applyEvents es := rfl

theorem applyEvents_keeps (es : List Event) : ∀ s : State,
    (s.applyEvents es).rom = s.rom ∧ (s.applyEvents es).cfg = s.cfg ∧
      (s.applyEvents es).schedule = s.schedule ∧
      ((s.applyEvents es).ram = s.ram ∨ (s.applyEvents es).ram = []) := by
  induction es with
  | nil => intro s; exact ⟨rfl, rfl, rfl, .inl rfl⟩
  | cons e es ih =>
    intro s
    obtain ⟨h1, h2, h3, h4⟩ := applyEvent_keeps s e
    obtain ⟨g1, g2, g3, g4⟩ := ih (s.applyEvent e).wake
    rw [applyEvents_cons]
    refine ⟨by rw [g1, wake_rom, h1], by rw [g2, wake_cfg, h2], by rw [g3, wake_schedule, h3], ?_⟩
    rw [wake_ram] at g4
    rcases g4 with g | g
    · rcases h4 with h | h
      · exact .inl (g.trans h)
      · exact .inr (g.trans h)
    · exact .inr g

/-- The boundary leaves the ROM and the options alone, takes the head batch off the schedule, and keeps
or empties data memory. -/
theorem boundary_keeps (s : State) :
    s.boundary.rom = s.rom ∧ s.boundary.cfg = s.cfg ∧ s.boundary.schedule = s.schedule.tail ∧
      (s.boundary.ram = s.ram ∨ s.boundary.ram = []) := by
  unfold State.boundary
  split
  · rename_i h; simp [h]
  · rename_i es rest h
    obtain ⟨h1, h2, h3, h4⟩ := applyEvents_keeps es (State.wake { s with schedule := rest })
    rw [wake_rom] at h1
    rw [wake_cfg] at h2
    rw [wake_schedule] at h3
    rw [wake_ram] at h4
    exact ⟨h1, h2, by rw [h3, h]; rfl, h4⟩

/-- With no event due the boundary is the wake-up check alone. -/
theorem boundary_of_no_event (s : State) (h : s.schedule = []) : s.boundary = s.wake := by
  unfold State.boundary; rw [h]

/-- With a batch due the boundary is the wake-up check, then the batch. -/
theorem boundary_of_batch (s : State) {es : List Event} {rest : List (List Event)}
    (h : s.schedule = es :: rest) :
    s.boundary = (State.wake { s with schedule := rest }).applyEvents es := by
  unfold State.boundary; rw [h]

/-- With an internal clock the internal edges tick the counter of a running core, the TMCLK edges
never. -/
theorem applyEvent_internal (s : State) {n : Fin 14} (h : s.cfg.timerSrc = .internal n) :
    s.applyEvent .internalTick = (if s.halted then s else s.timerTick) ∧
      s.applyEvent .tmclkRise = s := by
  simp only [State.applyEvent, h, and_self]

/-- With the external clock the TMCLK edges tick the counter, in HALT only where they count there; the
internal edges never do. -/
theorem applyEvent_external (s : State) (h : s.cfg.timerSrc = .external) :
    s.applyEvent .internalTick = s ∧
      s.applyEvent .tmclkRise =
        (if s.halted && s.cfg.timerExtInHalt == .stops then s else s.timerTick) := by
  simp only [State.applyEvent, h, and_self]

/-- In HALT the end of a sound and the bank latch have no effect (R252, R284). -/
theorem applyEvent_frozen (s : State) (v : BitVec 2) (h : s.halted = true) :
    s.applyEvent .soundEnd = s ∧ s.applyEvent (.writePB v) = s := by
  simp [State.applyEvent, h]

/-- Ticks are counted from the front as well as from the back. -/
theorem timerTicks_succ (s : State) (n : Nat) : s.timerTicks (n + 1) = s.timerTick.timerTicks n := by
  induction n with
  | zero => rfl
  | succ n ih => exact congrArg State.timerTick ih

/-- What ticks leave in the counter and TF depends on TON, TMR and TF alone. -/
theorem timerTicks_congr (n : Nat) {s t : State}
    (h : s.ton = t.ton ∧ s.tmr = t.tmr ∧ s.tf = t.tf) :
    (s.timerTicks n).ton = (t.timerTicks n).ton ∧ (s.timerTicks n).tmr = (t.timerTicks n).tmr ∧
      (s.timerTicks n).tf = (t.timerTicks n).tf := by
  induction n with
  | zero => exact h
  | succ n ih =>
    show (s.timerTicks n).timerTick.ton = (t.timerTicks n).timerTick.ton ∧
      (s.timerTicks n).timerTick.tmr = (t.timerTicks n).timerTick.tmr ∧
      (s.timerTicks n).timerTick.tf = (t.timerTicks n).timerTick.tf
    simp [ih]

/-- A core that is not halted is not touched by the wake-up check. -/
theorem wake_of_running (s : State) (h : s.halted = false) : s.wake = s := by
  cases s
  simp_all [State.wake, State.setHalted]

/-- Everything a step that answers a next state can be: a halted core's idle step, an interrupt entry,
or the instruction at the program counter, each after the boundary. -/
theorem step_cases {s t : State} (h : step s = .next t) :
    (s.boundary.halted = true ∧ t = s.boundary) ∨
    (s.boundary.halted = false ∧ s.boundary.interruptAccepted = true ∧
      t = s.boundary.takeInterrupt) ∨
    (s.boundary.halted = false ∧ s.boundary.interruptAccepted = false ∧
      ∃ i, s.boundary.fetch = .ok i ∧ exec i s.boundary = .next t) := by
  unfold step at h
  split at h
  · injection h with h
    exact .inl ⟨‹_›, h.symm⟩
  · split at h
    · injection h with h
      exact .inr (.inl ⟨by simpa using ‹¬s.boundary.halted = true›, ‹_›, h.symm⟩)
    · split at h
      · rename_i i hi
        exact .inr (.inr ⟨by simpa using ‹¬s.boundary.halted = true›,
          by simpa using ‹¬s.boundary.interruptAccepted = true›, i, hi, h⟩)
      · cases h

end Sys2Proof.Machine
end

