-- ==== Sys2Proof/Tests/Slice0.lean ====
section
/-! SUPPORT. Tests. The words and the expected values come from the spec: R103's opcode map, the encoding
lines and vectors of `95_test_vectors.md`. Witnesses show that the hypotheses of each statement can be
met together. -/

namespace Sys2Proof.Tests

open Sys2Proof.Machine

/-! Helpers. -/

/-- The start of the vectors: `pc = 100H`, `R1R0 = 40H`, nothing else but what reset leaves. -/
def base : State :=
  { State.reset with pc := 0x100#12, regs := { r0 := 0, r1 := 4, r2 := 0, r3 := 0, r4 := 0 } }

/-- `s` with the two bytes at its program counter. -/
def holding (s : State) (b1 b2 : Byte) : State :=
  { s with rom := (s.rom.write (s.romIndex s.pc) b1).write (s.romIndex (s.pc + 1#12)) b2 }

/-- The state after one step that runs the two bytes (the second is not used by a one-byte
instruction). -/
def runs (b1 b2 : Byte) (s : State) : Option State := nextState (step (holding s b1 b2))

/-- `base` with ACC, CF and the cell 40H. -/
def alu (a m : Nibble) (c : Bool) : State := { base with acc := a, cf := c, ram := [(0x40, m)] }

/-- ACC, CF and the program counter. -/
def seen (o : Option State) : Option (Nibble × Bool × CodeAddr) := o.map fun t => (t.acc, t.cf, t.pc)

/-- ACC, CF and the data at R1R0. -/
def seenMem (o : Option State) : Option (Nibble × Bool × Option Nibble) :=
  o.map fun t => (t.acc, t.cf, t.ram.read (t.cell t.ptr10))

/-- The working registers and the program counter. -/
def seenRegs (o : Option State) : Option (Regs × CodeAddr) := o.map fun t => (t.regs, t.pc)

/-! Well-formedness: each check refuses an ill-formed term. -/

/-- TMCLK pull-high with an internal timer clock (R4). -/
theorem test_options_ill_formed :
    Options.wellFormed { Options.suggested with tmclkPullHigh := true } = false ∧
    Options.wellFormed { Options.suggested with tmclkPullHigh := true, timerSrc := .external } = true ∧
    Options.wellFormed Options.suggested = true := by decide

/-- 35H (R104). -/
theorem test_first_byte_ill_formed :
    firstByteAssigned 0x35#8 = false ∧ firstByteAssigned 0x34#8 = true ∧
    codeWellFormed 0x35#8 0x00#8 = false := by decide

/-- 37H not followed by 3EH (R105). -/
theorem test_halt_bytes_ill_formed :
    haltBytesMatch 0x37#8 0x00#8 = false ∧ haltBytesMatch 0x37#8 0x3E#8 = true ∧
    codeWellFormed 0x37#8 0x3F#8 = false := by decide

/-- 40H, 10H and 6FH, 1FH (R105). -/
theorem test_immediate_byte_ill_formed :
    immediateByteMatches 0x40#8 0x10#8 = false ∧ immediateByteMatches 0x6F#8 0x1F#8 = false ∧
    immediateByteMatches 0x47#8 0xFF#8 = true ∧ codeWellFormed 0x46#8 0x10#8 = false := by decide

/-- A branch at 000H cannot reach 800H; one at 7FEH can (R196, R313). -/
theorem test_branch_out_of_reach :
    branchReaches 0x000#12 0x800#12 = false ∧ branchReaches 0x7FE#12 0x923#12 = true ∧
    branchReaches 0x7FE#12 0x123#12 = false := by decide

/-- Keys that fall, repeat or lie outside the memory. -/
theorem test_memory_ill_formed :
    ¬ Memory.wf ramSize [(5, 1#4), (4, 2#4)] ∧ ¬ Memory.wf ramSize [(4, 1#4), (4, 2#4)] ∧
    ¬ Memory.wf ramSize [(384, 1#4)] ∧ Memory.wf ramSize [(4, 1#4), (383, 2#4)] := by decide

/-! Decoding: for every constructor a word written out from R103's map. -/

/-- 00H..0FH (R103; the digits of RR, RL, RRC, RLC by C4). -/
theorem test_decode_rows_0 :
    decode [0x00#8] = .ok (.rrA, []) ∧
    decode [0x01#8] = .ok (.rlA, []) ∧
    decode [0x02#8] = .ok (.rrcA, []) ∧
    decode [0x03#8] = .ok (.rlcA, []) ∧
    decode [0x04#8] = .ok (.movAMem10, []) ∧
    decode [0x05#8] = .ok (.movMem10A, []) ∧
    decode [0x06#8] = .ok (.movAMem32, []) ∧
    decode [0x07#8] = .ok (.movMem32A, []) ∧
    decode [0x08#8] = .ok (.adcAMem, []) ∧
    decode [0x09#8] = .ok (.addAMem, []) ∧
    decode [0x0A#8] = .ok (.sbcAMem, []) ∧
    decode [0x0B#8] = .ok (.subAMem, []) ∧
    decode [0x0C#8] = .ok (.incMem10, []) ∧
    decode [0x0D#8] = .ok (.decMem10, []) ∧
    decode [0x0E#8] = .ok (.incMem32, []) ∧
    decode [0x0F#8] = .ok (.decMem32, []) :=
  ⟨rfl, rfl, rfl, rfl, rfl, rfl, rfl, rfl, rfl, rfl, rfl, rfl, rfl, rfl, rfl, rfl⟩

/-- 10H..1FH: `0 0 0 1 n n n 0/1`, then the logic instructions. -/
theorem test_decode_rows_1 :
    decode [0x10#8] = .ok (.incR0, []) ∧
    decode [0x11#8] = .ok (.decR0, []) ∧
    decode [0x12#8] = .ok (.incR1, []) ∧
    decode [0x13#8] = .ok (.decR1, []) ∧
    decode [0x14#8] = .ok (.incR2, []) ∧
    decode [0x15#8] = .ok (.decR2, []) ∧
    decode [0x16#8] = .ok (.incR3, []) ∧
    decode [0x17#8] = .ok (.decR3, []) ∧
    decode [0x18#8] = .ok (.incR4, []) ∧
    decode [0x19#8] = .ok (.decR4, []) ∧
    decode [0x1A#8] = .ok (.andAMem, []) ∧
    decode [0x1B#8] = .ok (.xorAMem, []) ∧
    decode [0x1C#8] = .ok (.orAMem, []) ∧
    decode [0x1D#8] = .ok (.andMemA, []) ∧
    decode [0x1E#8] = .ok (.xorMemA, []) ∧
    decode [0x1F#8] = .ok (.orMemA, []) :=
  ⟨rfl, rfl, rfl, rfl, rfl, rfl, rfl, rfl, rfl, rfl, rfl, rfl, rfl, rfl, rfl, rfl⟩

/-- 20H..2FH: `0 0 1 0 n n n 0/1`, then flags and returns. -/
theorem test_decode_rows_2 :
    decode [0x20#8] = .ok (.movR0A, []) ∧
    decode [0x21#8] = .ok (.movAR0, []) ∧
    decode [0x22#8] = .ok (.movR1A, []) ∧
    decode [0x23#8] = .ok (.movAR1, []) ∧
    decode [0x24#8] = .ok (.movR2A, []) ∧
    decode [0x25#8] = .ok (.movAR2, []) ∧
    decode [0x26#8] = .ok (.movR3A, []) ∧
    decode [0x27#8] = .ok (.movAR3, []) ∧
    decode [0x28#8] = .ok (.movR4A, []) ∧
    decode [0x29#8] = .ok (.movAR4, []) ∧
    decode [0x2A#8] = .ok (.clc, []) ∧
    decode [0x2B#8] = .ok (.stc, []) ∧
    decode [0x2C#8] = .ok (.ei, []) ∧
    decode [0x2D#8] = .ok (.di, []) ∧
    decode [0x2E#8] = .ok (.ret, []) ∧
    decode [0x2F#8] = .ok (.reti, []) :=
  ⟨rfl, rfl, rfl, rfl, rfl, rfl, rfl, rfl, rfl, rfl, rfl, rfl, rfl, rfl, rfl, rfl⟩

/-- 30H..3FH, without 35H; HALT is 37H, 3EH. -/
theorem test_decode_rows_3 :
    decode [0x30#8] = .ok (.outPAA, []) ∧
    decode [0x31#8] = .ok (.incA, []) ∧
    decode [0x32#8] = .ok (.inAPM, []) ∧
    decode [0x33#8] = .ok (.inAPS, []) ∧
    decode [0x34#8] = .ok (.outPCA, []) ∧
    decode [0x36#8] = .ok (.daa, []) ∧
    decode [0x37#8, 0x3E#8] = .ok (.halt, []) ∧
    decode [0x38#8] = .ok (.timerOn, []) ∧
    decode [0x39#8] = .ok (.timerOff, []) ∧
    decode [0x3A#8] = .ok (.movATmrl, []) ∧
    decode [0x3B#8] = .ok (.movATmrh, []) ∧
    decode [0x3C#8] = .ok (.movTmrlA, []) ∧
    decode [0x3D#8] = .ok (.movTmrhA, []) ∧
    decode [0x3E#8] = .ok (.nop, []) ∧
    decode [0x3F#8] = .ok (.decA, []) :=
  ⟨rfl, rfl, rfl, rfl, rfl, rfl, rfl, rfl, rfl, rfl, rfl, rfl, rfl, rfl, rfl⟩

/-- 40H..4FH: `0 1 0 0 0 o o o  0 0 0 0 d d d d`, TIMER XXH, sound, table reads. -/
theorem test_decode_rows_4 :
    decode [0x40#8, 0x0F#8] = .ok (.addAImm 0xF#4, []) ∧
    decode [0x41#8, 0x0A#8] = .ok (.subAImm 0xA#4, []) ∧
    decode [0x42#8, 0x07#8] = .ok (.andAImm 0x7#4, []) ∧
    decode [0x43#8, 0x0F#8] = .ok (.xorAImm 0xF#4, []) ∧
    decode [0x44#8, 0x08#8] = .ok (.orAImm 0x8#4, []) ∧
    decode [0x45#8, 0x0C#8] = .ok (.soundN 0xC#4, []) ∧
    decode [0x46#8, 0x0C#8] = .ok (.movR4Imm 0xC#4, []) ∧
    decode [0x47#8, 0xF4#8] = .ok (.timerImm 0xF4#8, []) ∧
    decode [0x48#8] = .ok (.soundOne, []) ∧
    decode [0x49#8] = .ok (.soundLoop, []) ∧
    decode [0x4A#8] = .ok (.soundOff, []) ∧
    decode [0x4B#8] = .ok (.soundA, []) ∧
    decode [0x4C#8] = .ok (.readR4A, []) ∧
    decode [0x4D#8] = .ok (.readfR4A, []) ∧
    decode [0x4E#8] = .ok (.readMR0A, []) ∧
    decode [0x4F#8] = .ok (.readfMR0A, []) :=
  ⟨rfl, rfl, rfl, rfl, rfl, rfl, rfl, rfl, rfl, rfl, rfl, rfl, rfl, rfl, rfl, rfl⟩

/-- 5dH 0dH, 6dH 0dH, 7dH. -/
theorem test_decode_moves :
    decode [0x5C#8, 0x03#8] = .ok (.movR1R0Imm 0xC#4 0x3#4, []) ∧
    decode [0x6F#8, 0x00#8] = .ok (.movR3R2Imm 0xF#4 0x0#4, []) ∧
    decode [0x7A#8] = .ok (.movAImm 0xA#4, []) :=
  ⟨rfl, rfl, rfl⟩

/-- `1 x x x x a a a  a a a a a a a a` (R205), `1 1 1 0` JMP, `1 1 1 1` CALL. -/
theorem test_decode_branches :
    decode [0x87#8, 0xFF#8] = .ok (.ja0 0x7FF#11, []) ∧
    decode [0x88#8, 0x80#8] = .ok (.ja1 0x080#11, []) ∧
    decode [0x93#8, 0x45#8] = .ok (.ja2 0x345#11, []) ∧
    decode [0x98#8, 0x00#8] = .ok (.ja3 0x000#11, []) ∧
    decode [0xA1#8, 0x05#8] = .ok (.jnzR0 0x105#11, []) ∧
    decode [0xAF#8, 0xFF#8] = .ok (.jnzR1 0x7FF#11, []) ∧
    decode [0xB2#8, 0x34#8] = .ok (.jzA 0x234#11, []) ∧
    decode [0xB8#8, 0x10#8] = .ok (.jnzA 0x010#11, []) ∧
    decode [0xC1#8, 0x23#8] = .ok (.jc 0x123#11, []) ∧
    decode [0xC8#8, 0x10#8] = .ok (.jnc 0x010#11, []) ∧
    decode [0xD5#8, 0x00#8] = .ok (.jtmr 0x500#11, []) ∧
    decode [0xDD#8, 0x00#8] = .ok (.jnzR4 0x500#11, []) ∧
    decode [0xE3#8, 0x45#8] = .ok (.jmp 0x345#12, []) ∧
    decode [0xF1#8, 0x23#8] = .ok (.call 0x123#12, []) :=
  ⟨rfl, rfl, rfl, rfl, rfl, rfl, rfl, rfl, rfl, rfl, rfl, rfl, rfl, rfl⟩

/-- The vectors that are no instruction, and the edges of R105's ranges. -/
theorem test_decode_nothing :
    decode [0x35#8, 0x00#8] = .error .unassignedOpcode ∧
    decode [0x37#8, 0x00#8] = .error .badSecondByte ∧ decode [0x40#8, 0x10#8] = .error .badSecondByte ∧
    decode [0x46#8, 0xF0#8] = .error .badSecondByte ∧ decode [0x50#8, 0x10#8] = .error .badSecondByte ∧
    decode [0x6F#8, 0x10#8] = .error .badSecondByte ∧ decode [0x80#8] = .error .truncated ∧
    decode [] = .error .truncated := ⟨rfl, rfl, rfl, rfl, rfl, rfl, rfl, rfl⟩

/-- The opcode table's numbers: one byte, and `byte1 : byte2`. -/
theorem test_decode_table_words :
    decodeTableWord 8 0x09 = some .addAMem ∧ decodeTableWord 16 0x373E = some .halt ∧
    decodeTableWord 16 0x450C = some (.soundN 0xC#4) ∧ decodeTableWord 16 0xE345 = some (.jmp 0x345#12) ∧
    decodeTableWord 8 0x35 = none ∧ decodeTableWord 16 0x4010 = none := by decide

/-- The edges of the addresses survive encoding. -/
theorem test_encode_edges :
    encode (.ja3 0x7FF#11) = [0x9F#8, 0xFF#8] ∧ encode (.jmp 0xFFF#12) = [0xEF#8, 0xFF#8] ∧
    encode (.soundN 0xC#4) = [0x45#8, 0x0C#8] := by decide

/-! One step each. -/

/-! Arithmetic (95 section 2.3). -/

theorem test_add_carries :
    seen (runs 0x09#8 0x00#8 (alu 0x9#4 0x8#4 false)) =
      some (0x1#4, true, 0x101#12) := by decide

theorem test_add_ignores_carry_in :
    seen (runs 0x09#8 0x00#8 (alu 0x3#4 0x0#4 true)) =
      some (0x3#4, false, 0x101#12) := by decide

theorem test_adc_wraps :
    seen (runs 0x08#8 0x00#8 (alu 0x7#4 0x8#4 true)) =
      some (0x0#4, true, 0x101#12) := by decide

theorem test_adc_full :
    seen (runs 0x08#8 0x00#8 (alu 0xF#4 0xF#4 true)) =
      some (0xF#4, true, 0x101#12) := by decide

theorem test_sub_borrows :
    seen (runs 0x0B#8 0x00#8 (alu 0x3#4 0x5#4 true)) =
      some (0xE#4, false, 0x101#12) := by decide

theorem test_sub_equal :
    seen (runs 0x0B#8 0x00#8 (alu 0x5#4 0x5#4 false)) =
      some (0x0#4, true, 0x101#12) := by decide

theorem test_sbc_takes_borrow :
    seen (runs 0x0A#8 0x00#8 (alu 0x5#4 0x2#4 false)) =
      some (0x2#4, true, 0x101#12) := by decide

theorem test_sbc_wraps :
    seen (runs 0x0A#8 0x00#8 (alu 0x4#4 0x4#4 false)) =
      some (0xF#4, false, 0x101#12) := by decide

theorem test_add_imm :
    seen (runs 0x40#8 0x06#8 (alu 0xC#4 0x0#4 false)) =
      some (0x2#4, true, 0x102#12) := by decide

theorem test_sub_imm :
    seen (runs 0x41#8 0x0F#8 (alu 0x0#4 0x0#4 true)) =
      some (0x1#4, false, 0x102#12) := by decide

theorem test_daa_over_nine :
    seen (runs 0x36#8 0x00#8 (alu 0xC#4 0x0#4 false)) =
      some (0x2#4, true, 0x101#12) := by decide

theorem test_daa_nine :
    seen (runs 0x36#8 0x00#8 (alu 0x9#4 0x0#4 false)) =
      some (0x9#4, false, 0x101#12) := by decide

/-! Logic (95 section 2.4). -/

theorem test_and_acc :
    seen (runs 0x1A#8 0x00#8 (alu 0xC#4 0xA#4 true)) =
      some (0x8#4, true, 0x101#12) := by decide

theorem test_or_acc :
    seen (runs 0x1C#8 0x00#8 (alu 0xC#4 0xA#4 false)) =
      some (0xE#4, false, 0x101#12) := by decide

theorem test_xor_acc :
    seen (runs 0x1B#8 0x00#8 (alu 0xC#4 0xA#4 true)) =
      some (0x6#4, true, 0x101#12) := by decide

theorem test_and_imm :
    seen (runs 0x42#8 0x07#8 (alu 0xD#4 0x0#4 true)) =
      some (0x5#4, true, 0x102#12) := by decide

theorem test_or_imm :
    seen (runs 0x44#8 0x08#8 (alu 0x1#4 0x0#4 false)) =
      some (0x9#4, false, 0x102#12) := by decide

theorem test_xor_imm :
    seen (runs 0x43#8 0x0F#8 (alu 0xA#4 0x0#4 false)) =
      some (0x5#4, false, 0x102#12) := by decide

theorem test_and_mem :
    seenMem (runs 0x1D#8 0x00#8 (alu 0xC#4 0xA#4 true)) =
      some (0xC#4, true, some 0x8#4) := by decide

theorem test_or_mem :
    seenMem (runs 0x1F#8 0x00#8 (alu 0xC#4 0xA#4 false)) =
      some (0xC#4, false, some 0xE#4) := by decide

theorem test_xor_mem :
    seenMem (runs 0x1E#8 0x00#8 (alu 0xC#4 0xA#4 false)) =
      some (0xC#4, false, some 0x6#4) := by decide

/-! Increment and decrement (95 section 2.5). -/

theorem test_inc_acc_wraps :
    seen (runs 0x31#8 0x00#8 (alu 0xF#4 0x0#4 false)) =
      some (0x0#4, false, 0x101#12) := by decide

theorem test_dec_acc_wraps :
    seen (runs 0x3F#8 0x00#8 (alu 0x0#4 0x0#4 true)) =
      some (0xF#4, true, 0x101#12) := by decide

theorem test_inc_mem_wraps :
    seenMem (runs 0x0C#8 0x00#8 (alu 0x3#4 0xF#4 false)) =
      some (0x3#4, false, some 0x0#4) := by decide

theorem test_dec_mem_wraps :
    seenMem (runs 0x0D#8 0x00#8 (alu 0x3#4 0x0#4 true)) =
      some (0x3#4, true, some 0xF#4) := by decide

theorem test_inc_r0 :
    seenRegs (runs 0x10#8 0x00#8 { base with regs := { r0 := 0xF#4, r1 := 0x4#4, r2 := 0x7#4, r3 := 0x8#4, r4 := 0x7#4 } }) =
      some ({ r0 := 0x0#4, r1 := 0x4#4, r2 := 0x7#4, r3 := 0x8#4, r4 := 0x7#4 }, 0x101#12) := by decide

theorem test_inc_r1 :
    seenRegs (runs 0x12#8 0x00#8 { base with regs := { r0 := 0xF#4, r1 := 0x4#4, r2 := 0x7#4, r3 := 0x8#4, r4 := 0x7#4 } }) =
      some ({ r0 := 0xF#4, r1 := 0x5#4, r2 := 0x7#4, r3 := 0x8#4, r4 := 0x7#4 }, 0x101#12) := by decide

theorem test_inc_r2 :
    seenRegs (runs 0x14#8 0x00#8 { base with regs := { r0 := 0xF#4, r1 := 0x4#4, r2 := 0x7#4, r3 := 0x8#4, r4 := 0x7#4 } }) =
      some ({ r0 := 0xF#4, r1 := 0x4#4, r2 := 0x8#4, r3 := 0x8#4, r4 := 0x7#4 }, 0x101#12) := by decide

theorem test_inc_r3 :
    seenRegs (runs 0x16#8 0x00#8 { base with regs := { r0 := 0xF#4, r1 := 0x4#4, r2 := 0x7#4, r3 := 0x8#4, r4 := 0x7#4 } }) =
      some ({ r0 := 0xF#4, r1 := 0x4#4, r2 := 0x7#4, r3 := 0x9#4, r4 := 0x7#4 }, 0x101#12) := by decide

theorem test_inc_r4 :
    seenRegs (runs 0x18#8 0x00#8 { base with regs := { r0 := 0xF#4, r1 := 0x4#4, r2 := 0x7#4, r3 := 0x8#4, r4 := 0x7#4 } }) =
      some ({ r0 := 0xF#4, r1 := 0x4#4, r2 := 0x7#4, r3 := 0x8#4, r4 := 0x8#4 }, 0x101#12) := by decide

theorem test_dec_r0 :
    seenRegs (runs 0x11#8 0x00#8 { base with regs := { r0 := 0x0#4, r1 := 0x4#4, r2 := 0x7#4, r3 := 0x8#4, r4 := 0x7#4 } }) =
      some ({ r0 := 0xF#4, r1 := 0x4#4, r2 := 0x7#4, r3 := 0x8#4, r4 := 0x7#4 }, 0x101#12) := by decide

theorem test_dec_r1 :
    seenRegs (runs 0x13#8 0x00#8 { base with regs := { r0 := 0x0#4, r1 := 0x4#4, r2 := 0x7#4, r3 := 0x8#4, r4 := 0x7#4 } }) =
      some ({ r0 := 0x0#4, r1 := 0x3#4, r2 := 0x7#4, r3 := 0x8#4, r4 := 0x7#4 }, 0x101#12) := by decide

theorem test_dec_r2 :
    seenRegs (runs 0x15#8 0x00#8 { base with regs := { r0 := 0x0#4, r1 := 0x4#4, r2 := 0x7#4, r3 := 0x8#4, r4 := 0x7#4 } }) =
      some ({ r0 := 0x0#4, r1 := 0x4#4, r2 := 0x6#4, r3 := 0x8#4, r4 := 0x7#4 }, 0x101#12) := by decide

theorem test_dec_r3 :
    seenRegs (runs 0x17#8 0x00#8 { base with regs := { r0 := 0x0#4, r1 := 0x4#4, r2 := 0x7#4, r3 := 0x8#4, r4 := 0x7#4 } }) =
      some ({ r0 := 0x0#4, r1 := 0x4#4, r2 := 0x7#4, r3 := 0x7#4, r4 := 0x7#4 }, 0x101#12) := by decide

theorem test_dec_r4 :
    seenRegs (runs 0x19#8 0x00#8 { base with regs := { r0 := 0x0#4, r1 := 0x4#4, r2 := 0x7#4, r3 := 0x8#4, r4 := 0x7#4 } }) =
      some ({ r0 := 0x0#4, r1 := 0x4#4, r2 := 0x7#4, r3 := 0x8#4, r4 := 0x6#4 }, 0x101#12) := by decide

theorem test_inc_mem32 :
    (runs 0x0E#8 0x00#8 { base with regs := { r0 := 0x0#4, r1 := 0x0#4, r2 := 0x0#4, r3 := 0x8#4, r4 := 0x0#4 }, ram := [(256, 9#4)] }).map (·.ram) =
      some [(256, 0xA#4)] := by decide

theorem test_dec_mem32 :
    (runs 0x0F#8 0x00#8 { base with regs := { r0 := 0x0#4, r1 := 0x0#4, r2 := 0xF#4, r3 := 0xF#4, r4 := 0x0#4 }, ram := [(383, 5#4)] }).map (·.ram) =
      some [(383, 4#4)] := by decide

/-! Moves (95 section 2.6). -/

theorem test_mov_acc_r0 :
    seen (runs 0x21#8 0x00#8 { base with regs := { r0 := 0x1#4, r1 := 0x2#4, r2 := 0x3#4, r3 := 0x9#4, r4 := 0x5#4 } }) =
      some (0x1#4, false, 0x101#12) := by decide

theorem test_mov_acc_r1 :
    seen (runs 0x23#8 0x00#8 { base with regs := { r0 := 0x1#4, r1 := 0x2#4, r2 := 0x3#4, r3 := 0x9#4, r4 := 0x5#4 } }) =
      some (0x2#4, false, 0x101#12) := by decide

theorem test_mov_acc_r2 :
    seen (runs 0x25#8 0x00#8 { base with regs := { r0 := 0x1#4, r1 := 0x2#4, r2 := 0x3#4, r3 := 0x9#4, r4 := 0x5#4 } }) =
      some (0x3#4, false, 0x101#12) := by decide

theorem test_mov_acc_r3 :
    seen (runs 0x27#8 0x00#8 { base with regs := { r0 := 0x1#4, r1 := 0x2#4, r2 := 0x3#4, r3 := 0x9#4, r4 := 0x5#4 } }) =
      some (0x9#4, false, 0x101#12) := by decide

theorem test_mov_acc_r4 :
    seen (runs 0x29#8 0x00#8 { base with regs := { r0 := 0x1#4, r1 := 0x2#4, r2 := 0x3#4, r3 := 0x9#4, r4 := 0x5#4 } }) =
      some (0x5#4, false, 0x101#12) := by decide

theorem test_mov_r0_acc :
    seenRegs (runs 0x20#8 0x00#8 { base with regs := { r0 := 0x1#4, r1 := 0x2#4, r2 := 0x3#4, r3 := 0x9#4, r4 := 0x5#4 }, acc := 6 }) =
      some ({ r0 := 0x6#4, r1 := 0x2#4, r2 := 0x3#4, r3 := 0x9#4, r4 := 0x5#4 }, 0x101#12) := by decide

theorem test_mov_r1_acc :
    seenRegs (runs 0x22#8 0x00#8 { base with regs := { r0 := 0x1#4, r1 := 0x2#4, r2 := 0x3#4, r3 := 0x9#4, r4 := 0x5#4 }, acc := 6 }) =
      some ({ r0 := 0x1#4, r1 := 0x6#4, r2 := 0x3#4, r3 := 0x9#4, r4 := 0x5#4 }, 0x101#12) := by decide

theorem test_mov_r2_acc :
    seenRegs (runs 0x24#8 0x00#8 { base with regs := { r0 := 0x1#4, r1 := 0x2#4, r2 := 0x3#4, r3 := 0x9#4, r4 := 0x5#4 }, acc := 6 }) =
      some ({ r0 := 0x1#4, r1 := 0x2#4, r2 := 0x6#4, r3 := 0x9#4, r4 := 0x5#4 }, 0x101#12) := by decide

theorem test_mov_r3_acc :
    seenRegs (runs 0x26#8 0x00#8 { base with regs := { r0 := 0x1#4, r1 := 0x2#4, r2 := 0x3#4, r3 := 0x9#4, r4 := 0x5#4 }, acc := 6 }) =
      some ({ r0 := 0x1#4, r1 := 0x2#4, r2 := 0x3#4, r3 := 0x6#4, r4 := 0x5#4 }, 0x101#12) := by decide

theorem test_mov_r4_acc :
    seenRegs (runs 0x28#8 0x00#8 { base with regs := { r0 := 0x1#4, r1 := 0x2#4, r2 := 0x3#4, r3 := 0x9#4, r4 := 0x5#4 }, acc := 6 }) =
      some ({ r0 := 0x1#4, r1 := 0x2#4, r2 := 0x3#4, r3 := 0x9#4, r4 := 0x6#4 }, 0x101#12) := by decide

theorem test_mov_acc_mem :
    seen (runs 0x04#8 0x00#8 (alu 0x0#4 0xB#4 false)) =
      some (0xB#4, false, 0x101#12) := by decide

theorem test_mov_acc_mem32 :
    seen (runs 0x06#8 0x00#8 { base with regs := { r0 := 0x0#4, r1 := 0x0#4, r2 := 0x1#4, r3 := 0x8#4, r4 := 0x0#4 }, ram := [(257, 2#4)] }) =
      some (2#4, false, 0x101#12) := by decide

theorem test_mov_mem_acc :
    seenMem (runs 0x05#8 0x00#8 (alu 0xE#4 0x0#4 false)) =
      some (0xE#4, false, some 0xE#4) := by decide

theorem test_mov_mem32_acc :
    (runs 0x07#8 0x00#8 { base with regs := { r0 := 0x0#4, r1 := 0x0#4, r2 := 0xE#4, r3 := 0xF#4, r4 := 0x0#4 }, acc := 1 }).map (·.ram) =
      some [(382, 1#4)] := by decide

/-- Bank 1 of address 10H is another cell (95 section 2.2). -/
theorem test_mov_mem_acc_bank1 :
    (runs 0x05#8 0x00#8 { base with regs := { r0 := 0x0#4, r1 := 0x1#4, r2 := 0x0#4, r3 := 0x0#4, r4 := 0x0#4 }, acc := 9, portc := 1, ram := [(16, 7#4)] }).map (·.ram) =
      some [(16, 7#4), (144, 9#4)] := by decide

theorem test_mov_acc_imm :
    seen (runs 0x7A#8 0x00#8 (alu 0x0#4 0x0#4 false)) =
      some (0xA#4, false, 0x101#12) := by decide

theorem test_mov_r4_imm :
    seenRegs (runs 0x46#8 0x0C#8 { base with regs := { r0 := 0x1#4, r1 := 0x2#4, r2 := 0x3#4, r3 := 0x9#4, r4 := 0x5#4 } }) =
      some ({ r0 := 0x1#4, r1 := 0x2#4, r2 := 0x3#4, r3 := 0x9#4, r4 := 0xC#4 }, 0x102#12) := by decide

theorem test_mov_r1r0_imm_low :
    seenRegs (runs 0x5C#8 0x03#8 { base with regs := { r0 := 0x1#4, r1 := 0x2#4, r2 := 0x3#4, r3 := 0x9#4, r4 := 0x5#4 } }) =
      some ({ r0 := 0xC#4, r1 := 0x3#4, r2 := 0x3#4, r3 := 0x9#4, r4 := 0x5#4 }, 0x102#12) := by decide

theorem test_mov_r1r0_imm_high :
    seenRegs (runs 0x53#8 0x0C#8 { base with regs := { r0 := 0x1#4, r1 := 0x2#4, r2 := 0x3#4, r3 := 0x9#4, r4 := 0x5#4 }, cfg := { Options.suggested with pairImmFirst := .high } }) =
      some ({ r0 := 0xC#4, r1 := 0x3#4, r2 := 0x3#4, r3 := 0x9#4, r4 := 0x5#4 }, 0x102#12) := by decide

theorem test_mov_r3r2_imm_low :
    seenRegs (runs 0x60#8 0x08#8 { base with regs := { r0 := 0x1#4, r1 := 0x2#4, r2 := 0x3#4, r3 := 0x9#4, r4 := 0x5#4 } }) =
      some ({ r0 := 0x1#4, r1 := 0x2#4, r2 := 0x0#4, r3 := 0x8#4, r4 := 0x5#4 }, 0x102#12) := by decide

theorem test_mov_r3r2_imm_high :
    seenRegs (runs 0x68#8 0x00#8 { base with regs := { r0 := 0x1#4, r1 := 0x2#4, r2 := 0x3#4, r3 := 0x9#4, r4 := 0x5#4 }, cfg := { Options.suggested with pairImmFirst := .high } }) =
      some ({ r0 := 0x1#4, r1 := 0x2#4, r2 := 0x0#4, r3 := 0x8#4, r4 := 0x5#4 }, 0x102#12) := by decide

/-! Rotations (95 section 2.7). -/

theorem test_rl :
    seen (runs 0x01#8 0x00#8 (alu 0x9#4 0x0#4 false)) =
      some (0x3#4, true, 0x101#12) := by decide

theorem test_rlc :
    seen (runs 0x03#8 0x00#8 (alu 0x9#4 0x0#4 false)) =
      some (0x2#4, true, 0x101#12) := by decide

theorem test_rr :
    seen (runs 0x00#8 0x00#8 (alu 0x9#4 0x0#4 false)) =
      some (0xC#4, true, 0x101#12) := by decide

theorem test_rrc :
    seen (runs 0x02#8 0x00#8 (alu 0x0#4 0x0#4 true)) =
      some (0x8#4, false, 0x101#12) := by decide

/-! Ports (95 section 2.8). -/

theorem test_in_ps :
    seen (runs 0x33#8 0x00#8 { base with pins := { driven := 0x7F#7, level := 0b0001010#7 } }) =
      some (0xA#4, false, 0x101#12) := by decide

theorem test_in_ps_pulled_high :
    seen (runs 0x33#8 0x00#8 base) =
      some (0xF#4, false, 0x101#12) := by decide

/-- Pins 1, 0, 1 in the low bits; bit 3 is free: ACC is 5 or D. -/
theorem test_in_pm :
    ∃ b : BitVec 1,
      (runs 0x32#8 0x00#8
        { base with pins := { driven := 0x7F#7, level := 0b1010000#7 } }).map (·.acc) =
      some (b ++ 0b101#3) := ⟨Config.freePmBit3 0, rfl⟩

theorem test_out_pa :
    (runs 0x30#8 0x00#8 { base with acc := 5 }).map (fun t => (t.pa, t.acc, t.emitted)) =
      some (5#4, 5#4, [.portA 5#4]) := by decide

theorem test_out_pc :
    (runs 0x34#8 0x00#8 { base with acc := 3 }).map (fun t => (t.portc, t.cell 0x10#8, t.pinPC2)) =
      some (3#4, 144, .low) := by decide

/-! Branches (95 section 2.9). -/

theorem test_jmp :
    (runs 0xE3#8 0x00#8 { base with pc := 0x100#12 }).map (·.pc) =
      some 0x300#12 := by decide

/-- At 7FEH the half is that of 800H (R196). -/
theorem test_jc_crosses_half :
    (runs 0xC1#8 0x23#8 { base with pc := 0x7FE#12, cf := true }).map (·.pc) =
      some 0x923#12 := by decide

theorem test_jc_wraps_not_taken :
    (runs 0xC1#8 0x23#8 { base with pc := 0xFFE#12 }).map (·.pc) =
      some 0x000#12 := by decide

theorem test_jnc_taken :
    (runs 0xC8#8 0x10#8 { base with pc := 0x900#12 }).map (·.pc) =
      some 0x810#12 := by decide

theorem test_jnc_not_taken :
    (runs 0xC8#8 0x10#8 { base with pc := 0x900#12, cf := true }).map (·.pc) =
      some 0x902#12 := by decide

theorem test_jtmr_taken :
    (runs 0xD0#8 0x40#8 { base with pc := 0x020#12, tf := true }).map (fun t => (t.pc, t.tf)) =
      some (0x040#12, false) := by decide

theorem test_jtmr_not_taken :
    (runs 0xD0#8 0x40#8 { base with pc := 0x020#12 }).map (fun t => (t.pc, t.tf)) =
      some (0x022#12, false) := by decide

theorem test_ja0 :
    (runs 0x87#8 0xFF#8 { base with pc := 0x000#12, acc := 1 }).map (·.pc) =
      some 0x7FF#12 := by decide

theorem test_ja1_not_taken :
    (runs 0x88#8 0x80#8 { base with pc := 0x000#12, acc := 4 }).map (·.pc) =
      some 0x002#12 := by decide

theorem test_ja2 :
    (runs 0x90#8 0x80#8 { base with pc := 0x000#12, acc := 4 }).map (·.pc) =
      some 0x080#12 := by decide

theorem test_ja3 :
    (runs 0x98#8 0x00#8 { base with pc := 0x800#12, acc := 8 }).map (·.pc) =
      some 0x800#12 := by decide

theorem test_jz_taken :
    (runs 0xB2#8 0x34#8 { base with pc := 0x100#12 }).map (·.pc) =
      some 0x234#12 := by decide

theorem test_jz_not_taken :
    (runs 0xB2#8 0x34#8 { base with pc := 0x100#12, acc := 8 }).map (·.pc) =
      some 0x102#12 := by decide

theorem test_jnz_taken :
    (runs 0xB8#8 0x10#8 { base with pc := 0x020#12, acc := 3 }).map (·.pc) =
      some 0x010#12 := by decide

theorem test_jnz_not_taken :
    (runs 0xB8#8 0x10#8 { base with pc := 0x020#12 }).map (·.pc) =
      some 0x022#12 := by decide

theorem test_jnz_r0_taken :
    (runs 0xA1#8 0x05#8 { base with pc := 0x100#12, regs := { r0 := 0x1#4, r1 := 0x0#4, r2 := 0x0#4, r3 := 0x0#4, r4 := 0x0#4 } }).map (·.pc) =
      some 0x105#12 := by decide

theorem test_jnz_r1_taken :
    (runs 0xA9#8 0x05#8 { base with pc := 0x100#12, regs := { r0 := 0x0#4, r1 := 0xF#4, r2 := 0x0#4, r3 := 0x0#4, r4 := 0x0#4 } }).map (·.pc) =
      some 0x105#12 := by decide

theorem test_jnz_r4_not_taken :
    (runs 0xD9#8 0x05#8 { base with pc := 0x100#12, regs := { r0 := 0x1#4, r1 := 0x1#4, r2 := 0x1#4, r3 := 0x1#4, r4 := 0x0#4 } }).map (·.pc) =
      some 0x102#12 := by decide

/-! Subroutines and flags (95 section 2.10). -/

theorem test_call :
    (runs 0xF2#8 0x00#8 { base with cf := true }).map (fun t => (t.pc, t.stackPc, t.sub, t.stackCf)) =
      some (0x200#12, 0x102#12, .call, false) := by decide

theorem test_call_wraps :
    (runs 0xF2#8 0x00#8 { base with pc := 0xFFE#12 }).map (fun t => (t.pc, t.stackPc)) =
      some (0x200#12, 0x000#12) := by decide

theorem test_call_in_isr :
    exec (.call 0x300#12) { base with sub := .isr } = .fault .callInIsr := rfl

theorem test_ret :
    (runs 0x2E#8 0x00#8 { base with stackPc := 0x034#12, sub := .isr, stackCf := true, ie := true }).map
        (fun t => (t.pc, t.sub, t.cf, t.ie)) =
      some (0x034#12, .none, false, true) := by decide

theorem test_reti :
    (runs 0x2F#8 0x00#8 { base with stackPc := 0x034#12, sub := .isr, stackCf := true, ie := true }).map
        (fun t => (t.pc, t.sub, t.cf, t.ie)) =
      some (0x034#12, .none, true, true) := by decide

theorem test_clc :
    seen (runs 0x2A#8 0x00#8 { base with cf := true }) =
      some (0#4, false, 0x101#12) := by decide

theorem test_stc :
    seen (runs 0x2B#8 0x00#8 base) =
      some (0#4, true, 0x101#12) := by decide

theorem test_ei :
    (runs 0x2C#8 0x00#8 base).map (·.ie) =
      some true := by decide

theorem test_di :
    (runs 0x2D#8 0x00#8 { base with ie := true, tf := true, sub := .isr }).map (fun t => (t.ie, t.tf)) =
      some (false, true) := by decide

theorem test_nop_wraps :
    (runs 0x3E#8 0x00#8 { base with pc := 0xFFF#12 }).map (·.pc) =
      some 0x000#12 := by decide

/-! Timer (95 section 2.11). -/

theorem test_timer_imm :
    (runs 0x47#8 0xF0#8 { base with tf := true, ton := true }).map (fun t => (t.tmr, t.tf, t.ton, t.pc)) =
      some (0xF0#8, true, true, 0x102#12) := by decide

theorem test_timer_on :
    (runs 0x38#8 0x00#8 { base with tmr := 0x37#8 }).map (fun t => (t.tmr, t.ton)) =
      some (0x37#8, true) := by decide

theorem test_timer_off :
    (runs 0x39#8 0x00#8 { base with tmr := 0x37#8, ton := true, tf := true }).map
        (fun t => (t.tmr, t.ton, t.tf)) =
      some (0x37#8, false, true) := by decide

theorem test_mov_acc_tmrl :
    seen (runs 0x3A#8 0x00#8 { base with tmr := 0xA5#8 }) =
      some (5#4, false, 0x101#12) := by decide

theorem test_mov_acc_tmrh :
    seen (runs 0x3B#8 0x00#8 { base with tmr := 0xA5#8 }) =
      some (0xA#4, false, 0x101#12) := by decide

theorem test_mov_tmrl_acc :
    (runs 0x3C#8 0x00#8 { base with tmr := 0xA5#8 }).map (fun t => (t.tmr, t.tf)) =
      some (0xA0#8, false) := by decide

theorem test_mov_tmrh_acc :
    (runs 0x3D#8 0x00#8 { base with tmr := 0xA5#8, acc := 0xF }).map (·.tmr) =
      some 0xF5#8 := by decide

theorem test_tick_overflows :
    (fun t : State => (t.tmr, t.tf)) { base with ton := true, tmr := 0xFF#8 }.timerTick =
      (0x00#8, true) := by decide

theorem test_tick_stopped :
    (fun t : State => (t.tmr, t.tf)) { base with tmr := 0xFF#8 }.timerTick =
      (0xFF#8, false) := by decide

/-! Table reads (95 section 2.12). The table byte is placed at its 14-bit address. -/

theorem test_read_r4a_page_margin :
    (runs 0x4C#8 0x00#8 { base with pc := 0x2FF#12, acc := 2, ram := [(0x40, 5#4)], rom := [(0x225, 0x11#8), (0x325, 0x9C#8)] }).map
        (fun t => (t.reg .r4, t.acc, t.pc)) =
      some (9#4, 0xC#4, 0x300#12) := by decide

theorem test_read_mr0a :
    (runs 0x4E#8 0x00#8 { base with pc := 0x200#12, acc := 0xF, rom := [(0x2F0, 0x3E#8)] }).map
        (fun t => (t.ram, t.acc, t.reg .r4)) =
      some ([(0x40, 3#4)], 0xE#4, 0#4) := by decide

theorem test_readf_r4a :
    (runs 0x4D#8 0x00#8 { base with ram := [(0x40, 3#4)], rom := [(0xF03, 0x4F#8)] }).map
        (fun t => (t.reg .r4, t.acc)) =
      some (4#4, 0xF#4) := by decide

theorem test_readf_mr0a :
    (runs 0x4F#8 0x00#8 { base with regs := { r0 := 0x0#4, r1 := 0x8#4, r2 := 0x0#4, r3 := 0x0#4, r4 := 0xA#4 }, acc := 1, rom := [(0xF1A, 0x7D#8)] }).map
        (fun t => (t.ram, t.acc)) =
      some ([(256, 7#4)], 0xD#4) := by decide

/-- The bank latch selects the table (R232). -/
theorem test_read_in_bank_2 :
    (runs 0x4D#8 0x00#8 { base with pb := 2#2, ram := [(0x40, 3#4)], rom := [(0x2F03, 0x4F#8)] }).map
        (fun t => (t.reg .r4, t.acc)) =
      some (4#4, 0xF#4) := by decide

/-! Sound and HALT (95 sections 2.13, 2.15). -/

theorem test_sound_n :
    (runs 0x45#8 0x0C#8 base).map (fun t => (t.sndSel, t.sndOn, t.emitted, t.pc)) =
      some (0xC#4, true, [.soundStart 0xC#4 .one], 0x102#12) := by decide

theorem test_sound_a :
    (runs 0x4B#8 0x00#8 { base with acc := 7 }).map (fun t => (t.sndSel, t.sndOn, t.pc)) =
      some (7#4, true, 0x101#12) := by decide

theorem test_sound_one :
    (runs 0x48#8 0x00#8 { base with sndMode := .loop }).map (fun t => (t.sndMode, t.sndOn)) =
      some (.one, false) := by decide

theorem test_sound_loop :
    (runs 0x49#8 0x00#8 base).map (·.sndMode) =
      some .loop := by decide

theorem test_sound_off :
    (runs 0x4A#8 0x00#8 { base with sndOn := true, sndSel := 3 }).map (fun t => (t.sndOn, t.sndSel)) =
      some (false, 3#4) := by decide

theorem test_halt :
    (runs 0x37#8 0x3E#8 { base with pc := 0x050#12 }).map (fun t => (t.pc, t.halted)) =
      some (0x052#12, true) := by decide

/-- Scenario H2. -/
theorem test_halt_rtc_entry :
    (nextState (step { base with pc := 0x052#12, halted := true, ie := true, cf := true, schedule := [[.rtc]] })).map
        (fun t => (t.pc, t.stackPc, t.stackCf, t.sub, t.rtcf, t.halted)) =
      some (0x008#12, 0x052#12, true, .isr, false, false) := by decide

/-- Scenario H4: IN A,PS follows. -/
theorem test_halt_pin_falls :
    (nextState (step (holding { base with pc := 0x052#12, halted := true, ie := true, pins := { driven := 0x7F#7, level := 0x7F#7 }, schedule := [[.pins { driven := 0x7F#7, level := 0x7E#7 }]] } 0x33#8 0x00#8))).map
        (fun t => (t.pc, t.acc, t.sub, t.halted)) =
      some (0x053#12, 0xE#4, .none, false) := by decide

/-- Scenario H5. -/
theorem test_halt_pin_not_enabled :
    (nextState (step { base with halted := true, cfg := { Options.suggested with wakeEn := 0#7 }, pins := { driven := 0x7F#7, level := 0x7F#7 }, schedule := [[.pins { driven := 0x7F#7, level := 0x7E#7 }]] })).map (·.halted) =
      some true := by decide

/-- P4, step 22. -/
theorem test_timer_entry :
    (nextState (step { base with pc := 0x01F#12, ie := true, cf := true, ton := true, tmr := 0xFF#8, schedule := [[.internalTick]] })).map
        (fun t => (t.pc, t.stackPc, t.stackCf, t.sub, t.tf, t.tmr)) =
      some (0x004#12, 0x01F#12, true, .isr, false, 0x00#8) := by decide

/-- Scenario I3. -/
theorem test_no_entry_in_subroutine :
    (runs 0x2E#8 0x00#8 { base with ie := true, tf := true, sub := .call, stackPc := 0x102#12 }).map
        (fun t => (t.pc, t.sub, t.tf, t.interruptAccepted)) =
      some (0x102#12, .none, true, true) := by decide

/-- A sound does not end in HALT, nor is the bank latch written (R252, R284); running, both happen. -/
theorem test_halt_freezes_sound_and_bank :
    (nextState (step { base with
      halted := true, sndOn := true, cfg := { Options.suggested with pbWriter := true },
      schedule := [[.soundEnd, .writePB 2#2]] })).map (fun t => (t.halted, t.sndOn, t.pb)) =
      some (true, true, 0#2) ∧
    (fun t : State => (t.sndOn, t.pb)) (State.boundary { base with
      sndOn := true, cfg := { Options.suggested with pbWriter := true },
      schedule := [[.soundEnd, .writePB 2#2]] }) = (false, 2#2) := by decide

/-- Only the selected clock ticks the counter (R269). -/
theorem test_only_the_selected_clock_ticks :
    (State.applyEvent { base with ton := true } .tmclkRise).tmr = 0#8 ∧
    (State.applyEvent { base with ton := true } .internalTick).tmr = 1#8 ∧
    (State.applyEvent { base with
      ton := true, cfg := { Options.suggested with timerSrc := .external } } .tmclkRise).tmr = 1#8 := by
  decide

/-! Reset, and how the host places an instruction. -/

/-- The reset table (95 section 2.16). -/
theorem test_reset :
    (State.reset.pc, State.reset.pb, State.reset.pa, State.reset.portc.extractLsb' 2 2) =
      (0x000#12, 0#2, 0xF#4, 3#2) ∧
    (State.reset.ie, State.reset.ton, State.reset.sndMode, State.reset.lcdOn) =
      (false, false, SoundMode.one, false) := by decide

/-- A RES pulse at a boundary of a halted core (scenario H9), then the first fetch at 000H. -/
theorem test_res_pulse :
    (nextState (step { base with halted := true, ie := true, sub := .isr, rom := [(0, 0xE1#8), (1, 0x23#8)], schedule := [[.resLow]] })).map
        (fun t => (t.pc, t.halted, t.ie, t.sub, t.pa)) =
      some (0x123#12, false, false, .none, 0xF#4) := by decide

/-- The word placed after reset is the one the first step runs. -/
theorem test_fetch_word_runs :
    (nextState (step (State.reset.withFetchWord 16 0xE345))).map (·.pc) = some 0x345#12 ∧
    (nextState (step (State.reset.withFetchWord 8 0x7A))).map (·.acc) = some 0xA#4 ∧
    step (State.reset.withFetchWord 8 0x35) = .fault .illegalOpcode := ⟨rfl, rfl, rfl⟩


/-! Witnesses: the hypotheses of each statement that has any, met together by one concrete state. -/

/-- `base` with NOP at its program counter. -/
def idle : State := holding base 0x3E#8 0x00#8

/-- An RTC request that can be accepted. -/
def rtcPending : State := { base with ie := true, rtcf := true, tf := true, cf := true }

/-- A TIMER request that can be accepted. -/
def timerPending : State := { base with ie := true, tf := true }

/-- `base` in HALT. -/
def asleep : State := { idle with halted := true }

theorem witness_DecodedBytesAreTheEncoding :
    decode [0x40#8, 0x0F#8, 0x77#8] = .ok (.addAImm 0xF#4, [0x77#8]) := rfl

theorem witness_BytesThatAreNoInstruction_edges :
    decode [0x37#8, 0x3D#8] = .error .badSecondByte ∧ decode [0x46#8, 0x10#8] = .error .badSecondByte ∧
    decode [0x47#8, 0x10#8] = .ok (.timerImm 0x10#8, []) ∧
    decode [0x50#8, 0x0F#8] = .ok (.movR1R0Imm 0#4 0xF#4, []) ∧
    decode [0x6F#8, 0x10#8] = .error .badSecondByte ∧
    decode [0x70#8, 0x10#8] = .ok (.movAImm 0#4, [0x10#8]) := ⟨rfl, rfl, rfl, rfl, rfl, rfl⟩

theorem witness_StepRunsTheDecodedInstruction :
    idle.boundary.halted = false ∧ idle.boundary.interruptAccepted = false ∧
    decode [idle.boundary.romRead idle.boundary.pc, idle.boundary.romRead (idle.boundary.pc + 1#12)] =
      .ok (.nop, [0x00#8]) := ⟨rfl, rfl, rfl⟩

theorem witness_BoundaryWithoutEvents_empty_schedule :
    base.halted = false ∧ base.schedule = [] := ⟨rfl, rfl⟩

theorem witness_BoundaryWithoutEvents_empty_batch :
    ({ base with schedule := [[], [.rtc]] } : State).halted = false ∧
    ({ base with schedule := [[], [.rtc]] } : State).schedule.head? = some [] := ⟨rfl, rfl⟩

theorem witness_InterruptEntryEffect_rtc :
    rtcPending.boundary.halted = false ∧ rtcPending.boundary.ie = true ∧
    rtcPending.boundary.sub = .none ∧ rtcPending.boundary.rtcf = true := by decide

theorem witness_InterruptEntryEffect_timer :
    timerPending.boundary.halted = false ∧ timerPending.boundary.ie = true ∧
    timerPending.boundary.sub = .none ∧ timerPending.boundary.rtcf = false ∧
    timerPending.boundary.tf = true := by decide

/-- Held, served by the entry, and TF taken by JTMR. -/
theorem witness_RequestsAreHeldUntilServed :
    (∃ t, step { idle with rtcf := true, tf := true } = .next t ∧ t.rtcf = true ∧ t.tf = true) ∧
    (∃ t, step rtcPending = .next t ∧ t.rtcf = false ∧ t.tf = true) ∧
    (∃ t, step timerPending = .next t ∧ t.tf = false) ∧
    (∃ t, step (holding { base with tf := true } 0xD0#8 0x40#8) = .next t ∧ t.tf = false) ∧
    (∀ es, idle.schedule.head? = some es → Event.resLow ∉ es) :=
  ⟨⟨_, rfl, rfl, rfl⟩, ⟨_, rfl, rfl, rfl⟩, ⟨_, rfl, rfl⟩, ⟨_, rfl, rfl⟩, fun _ h => (nomatch h)⟩

theorem witness_HaltedCoreDoesNothing : asleep.boundary.halted = true := by decide

theorem witness_StepStopsOnlyAsListed :
    step (holding base 0x35#8 0x00#8) = .fault .illegalOpcode ∧
    step (holding base 0x40#8 0x10#8) = .fault .illegalOpcode ∧
    step (holding { base with sub := .isr } 0xF3#8 0x00#8) = .fault .callInIsr ∧
    (∃ t, step (holding { base with sub := .isr } 0xEF#8 0xFF#8) = .next t) :=
  ⟨rfl, rfl, rfl, _, rfl⟩

/-- A store into a memory that already lists a cell. -/
theorem witness_StepKeepsTheMemoriesCanonical :
    (holding (alu 3 9 false) 0x05#8 0x00#8).wf ∧
    ∃ t, step (holding (alu 3 9 false) 0x05#8 0x00#8) = .next t := ⟨by decide, _, rfl⟩

theorem witness_StepNeverWritesRomOrOptions :
    ∃ t, step { idle with
      schedule := [[.internalTick, .resLow]], rom := [(0, 0x3E#8), (1, 0#8)] } = .next t := ⟨_, rfl⟩

/-- A bank-latch event that the option keeps off. -/
theorem witness_RomBankStaysZeroWithoutAWriter :
    (∃ t, exec .nop base = .next t) ∧ idle.cfg.pbWriter = false ∧ idle.pb = 0#2 ∧
    ∃ t, step { idle with schedule := [[.writePB 3#2]] } = .next t := ⟨⟨_, rfl⟩, rfl, rfl, _, rfl⟩

theorem witness_OnlyTheMarkedInstructionsWriteTheCarry :
    (∃ t, exec (.movAImm 3#4) base = .next t) ∧
    Instr.movAImm 3#4 ∉ [.addAMem, .adcAMem, .subAMem, .sbcAMem, .daa, .rlA, .rlcA, .rrA, .rrcA,
      .reti, .clc, .stc] ∧
    (∀ x, Instr.movAImm 3#4 ≠ .addAImm x) ∧ (∀ x, Instr.movAImm 3#4 ≠ .subAImm x) :=
  ⟨⟨_, rfl⟩, by decide, fun _ h => (nomatch h), fun _ h => (nomatch h)⟩

/-- JTMR for its clause, NOP for all the others. -/
theorem witness_ControlStateWriters :
    (∃ t, exec (.jtmr 0x40#11) timerPending = .next t) ∧ (∃ a, Instr.jtmr 0x40#11 = .jtmr a) ∧
    (∃ t, exec .nop base = .next t) ∧ (∀ a, Instr.nop ≠ .jtmr a) ∧ (∀ a, Instr.nop ≠ .call a) ∧
    Instr.nop ≠ .ei ∧ Instr.nop ≠ .di ∧ Instr.nop ≠ .ret ∧ Instr.nop ≠ .reti :=
  ⟨⟨_, rfl⟩, ⟨_, rfl⟩, ⟨_, rfl⟩, fun _ h => (nomatch h), fun _ h => (nomatch h), by decide, by decide,
    by decide, by decide⟩

theorem witness_LatchAndDeviceWriters :
    (∃ t, exec .nop base = .next t) ∧ Instr.nop ≠ .outPAA ∧ Instr.nop ≠ .outPCA ∧
    (∀ xx, Instr.nop ≠ .timerImm xx) ∧ Instr.nop ≠ .movTmrlA ∧ Instr.nop ≠ .timerOn ∧
    Instr.nop ≠ .soundLoop ∧ (∀ n, Instr.nop ≠ .soundN n) ∧ Instr.nop ≠ .soundA ∧
    Instr.nop ≠ .halt :=
  ⟨⟨_, rfl⟩, by decide, by decide, fun _ h => (nomatch h), by decide, by decide, by decide,
    fun _ h => (nomatch h), by decide, by decide⟩

/-- A store to 40H leaves cell 41H, which is neither pointer's; a load stores nothing. -/
theorem witness_StoresReachOnlyThePointedCell :
    (∃ t, exec .movMem10A base = .next t) ∧ 0x41 ≠ base.cell base.ptr10 ∧
    0x41 ≠ base.cell base.ptr32 ∧ (∃ t, exec .movAMem10 base = .next t) ∧
    Instr.movAMem10 ∉ [.incMem10, .decMem10, .incMem32, .decMem32, .movMem10A, .movMem32A, .andMemA,
      .orMemA, .xorMemA, .readMR0A, .readfMR0A] :=
  ⟨⟨_, rfl⟩, by decide, by decide, ⟨_, rfl⟩, by decide⟩

/-- 9 + 9 with a carry in. -/
theorem witness_DecimalAdditionIsCorrect :
    (alu 9 9 true).acc.toNat ≤ 9 ∧ ((alu 9 9 true).memRead (alu 9 9 true).ptr10).toNat ≤ 9 := by
  decide

/-- 52H - 17H: a borrow between the digits. -/
theorem witness_TwoDigitSubtractionChains :
    ∃ t t2, exec .subAMem (alu 2 7 true) = .next t ∧ (alu 5 1 false).cf = t.cf ∧
      exec .sbcAMem (alu 5 1 false) = .next t2 := ⟨_, _, rfl, rfl, rfl⟩

/-- For the clauses on a second byte in LogicWithImmediates, ImmediateMoves, PairImmediateMoves and
SoundCommands: the least such byte. -/
theorem witness_second_byte_with_high_nibble : 0x10 ≤ (0x10#8 : Byte).toNat := by decide

/-- The other bank, at the two sides of 80H. -/
theorem witness_LoadAfterStore :
    (1#4 : Nibble).getLsbD 0 ≠ base.portc.getLsbD 0 ∧
    State.cell { base with portc := 1#4 } 0x7F#8 ≠ base.cell 0x7F#8 ∧
    State.cell { base with portc := 1#4 } 0x80#8 = base.cell 0x80#8 := by decide

theorem witness_PairImmediateMoves :
    base.cfg.pairImmFirst = .low ∧ pairNibbles .low 0x3C#8 = (0xC#4, 0x3#4) ∧
    pairNibbles .high 0x3C#8 = (0x3#4, 0xC#4) ∧
    ({ Options.suggested with pairImmFirst := .high } : Options).pairImmFirst = .high := by decide

/-- PS0 driven, PS3 and PM2 undriven with pull-high, PM0 driven. -/
theorem witness_InputPortsReadThePins :
    (0b0010001#7).getLsbD 0 = true ∧ (0b0010001#7).getLsbD 3 = false ∧
    base.cfg.pullHigh.getLsbD 3 = true ∧ (0b0010001#7).getLsbD (4 + 0) = true ∧
    (0b0010001#7).getLsbD (4 + 2) = false ∧ base.cfg.pullHigh.getLsbD (4 + 2) = true := by decide

theorem witness_CallSavesTheReturnAddress :
    base.sub ≠ .isr ∧ ({ base with sub := .call } : State).sub ≠ .isr ∧
    ({ base with sub := .isr } : State).sub = .isr := by decide

theorem witness_InterruptsResumeExactly :
    rtcPending.interruptAccepted = true ∧ timerPending.interruptAccepted = true := by decide

theorem witness_TimerCountsUpAndOverflows :
    ({ base with ton := true } : State).ton = true ∧ base.ton = false := by decide

/-- A stopped external timer, and a running internal one. -/
theorem witness_TimerReads :
    base.ton = false ∧ base.cfg.timerSrc ≠ .external := by decide

/-- An RTC event beside others, with the interrupt enabled. -/
def rtcInHalt : State := { asleep with ie := true, schedule := [[.internalTick, .rtc, .soundEnd]] }

/-- The latch already set and nothing scheduled, inside a subroutine. -/
def latchInHalt : State := { asleep with rtcf := true, sub := .call }

theorem witness_RtcEndsHalt_by_event :
    rtcInHalt.halted = true ∧ rtcInHalt.schedule.head? = some [.internalTick, .rtc, .soundEnd] ∧
    Event.resLow ∉ [Event.internalTick, .rtc, .soundEnd] ∧
    Event.rtc ∈ [Event.internalTick, .rtc, .soundEnd] ∧ rtcInHalt.ie = true ∧
    rtcInHalt.sub = .none := ⟨rfl, rfl, by decide, by decide, rfl, rfl⟩

theorem witness_RtcEndsHalt_by_latch :
    latchInHalt.halted = true ∧ latchInHalt.schedule.head? = none ∧ latchInHalt.rtcf = true ∧
    latchInHalt.sub ≠ .none ∧ latchInHalt.boundary.fetch = .ok .nop :=
  ⟨rfl, rfl, rfl, by decide, rfl⟩

/-- PS0 driven from high to low in HALT. -/
theorem witness_PinFallsEndHalt :
    asleep.cfg.wakeEn.getLsbD 0 = true ∧
    ({ asleep with pins := { driven := 1#7, level := 1#7 } } : State).pinLevel asleep.draws 0 = true ∧
    (({ asleep with pins := { driven := 1#7, level := 1#7 } } : State).applyEvent
      (.pins { driven := 1#7, level := 0#7 })).halted = false := by decide

theorem witness_TicksDoNotEndHalt :
    asleep.halted = true ∧ asleep.rtcf = false ∧
    (∀ e ∈ [Event.internalTick, .tmclkRise, .soundEnd, .writePB 1#2], e.quietInHalt = true) ∧
    asleep.cfg.timerSrc ≠ .external := by decide

/-- The other clause: an external clock that counts in HALT. -/
theorem witness_TicksDoNotEndHalt_counting :
    ({ Options.suggested with timerSrc := .external, timerExtInHalt := .counts } : Options).timerSrc =
      .external ∧
    ({ Options.suggested with timerSrc := .external, timerExtInHalt := .counts } :
      Options).timerExtInHalt = .counts := by decide

/-- Both clock sources, with all three kinds of event. -/
theorem witness_ClockEventsReachTheCounter :
    base.halted = false ∧ base.cfg.timerSrc = .internal 0 ∧
    ({ base with cfg := { Options.suggested with timerSrc := .external } } : State).cfg.timerSrc =
      .external ∧
    (∀ e ∈ [Event.tmclkRise, .internalTick, .rtc],
      e = .internalTick ∨ e = .tmclkRise ∨ e = .rtc) := by decide

/-- Values unlike those of `State.reset`. -/
def odd : Unspecified :=
  { acc := 7, regs := { r0 := 1, r1 := 2, r2 := 3, r3 := 4, r4 := 5 }, rtcf := true,
    stackPc := 0x123, stackCf := true, tmr := 0x45, portc0 := true, sndSel := 6 }

/-- A RES pulse that leaves such values, and the last pin of port A. -/
theorem witness_ResetTableHolds :
    (∃ t, t = base.afterReset odd 1 ∧ t.acc = 7#4 ∧ t.portc = 0b1101#4) ∧ 3 < 4 :=
  ⟨⟨_, rfl, rfl, rfl⟩, by decide⟩

/-- The edges of the bit positions in RotatesMoveEveryBit and OutputPortsLatchTheAccumulator. -/
theorem witness_bit_positions : 0 < 3 ∧ 2 < 3 ∧ 0 < 4 ∧ 3 < 4 := by decide

end Sys2Proof.Tests
end

section
/-! The boundary of a running core without events. -/

namespace Sys2Proof.Proofs
open Sys2Proof.Machine

/-- An empty batch falling at the boundary of a running core is taken off the schedule; the wake-up
check before it finds nothing to wake. -/
theorem boundary_of_empty_batch_running {s : State} {rest : List (List Event)}
    (hrun : s.halted = false) (hsched : s.schedule = [] :: rest) :
    s.boundary = { s with schedule := rest } := by
  rw [boundary_of_batch s hsched, applyEvents_nil]
  exact wake_of_running { s with schedule := rest } hrun

/-- Settles O6, by whether the schedule is empty or its head batch is. -/
theorem boundaryWithoutEventsChangesNothing : Obligations.BoundaryWithoutEventsChangesNothing := by
  intro s hrun hquiet
  rcases hquiet with hnil | hhead
  · have htail : s.schedule.tail = s.schedule := by rw [hnil, List.tail_nil]
    rw [boundary_of_no_event s hnil, wake_of_running s hrun, htail]
  · have hsched : s.schedule = [] :: s.schedule.tail := List.eq_cons_of_mem_head? hhead
    exact boundary_of_empty_batch_running hrun hsched

end Sys2Proof.Proofs
end

section
/-! The frame of each operation, and from it of each instruction (10_state.md section 1). -/

namespace Sys2Proof.Proofs
open Sys2Proof.Machine

/-! ## The frame of one operation -/

theorem setAcc_changesOnly (s : State) (v : Nibble) : ChangesOnly [.acc] s (s.setAcc v) := by
  intro f hf
  cases f with
  | acc => simp at hf
  | _ => rfl

theorem setAlu_changesOnly (s : State) (o : AluOut) : ChangesOnly [.acc, .cf] s (s.setAlu o) := by
  intro f hf
  cases f with
  | acc | cf => simp at hf
  | _ => rfl

theorem setCf_changesOnly (s : State) (b : Bool) : ChangesOnly [.cf] s (s.setCf b) := by
  intro f hf
  cases f with
  | cf => simp at hf
  | _ => rfl

theorem setReg_changesOnly (s : State) (r : Reg) (v : Nibble) :
    ChangesOnly [.reg r] s (s.setReg r v) := by
  intro f hf
  cases f with
  | reg q =>
    have hq : q ≠ r := by simpa using hf
    exact (setReg_reg s r q v).trans (if_neg hq)
  | _ => rfl

theorem memWrite_changesOnly (s : State) (a : Byte) (v : Nibble) :
    ChangesOnly [.ramCell (s.cell a)] s (s.memWrite a v) := by
  intro f hf
  cases f with
  | ramCell k =>
    have hk : k ≠ s.cell a := by simpa using hf
    exact memWrite_ramCell_other s a v hk
  | _ => rfl

theorem setTf_changesOnly (s : State) (b : Bool) : ChangesOnly [.tf] s (s.setTf b) := by
  intro f hf
  cases f with
  | tf => simp at hf
  | _ => rfl

theorem setIe_changesOnly (s : State) (b : Bool) : ChangesOnly [.ie] s (s.setIe b) := by
  intro f hf
  cases f with
  | ie => simp at hf
  | _ => rfl

theorem setTmr_changesOnly (s : State) (v : Byte) : ChangesOnly [.tmr] s (s.setTmr v) := by
  intro f hf
  cases f with
  | tmr => simp at hf
  | _ => rfl

theorem setTon_changesOnly (s : State) (b : Bool) : ChangesOnly [.ton] s (s.setTon b) := by
  intro f hf
  cases f with
  | ton => simp at hf
  | _ => rfl

theorem setHalted_changesOnly (s : State) (b : Bool) :
    ChangesOnly [.halted] s (s.setHalted b) := by
  intro f hf
  cases f with
  | halted => simp at hf
  | _ => rfl

theorem jump_changesOnly (s : State) (a : CodeAddr) : ChangesOnly [.pc] s (s.jump a) := by
  intro f hf
  cases f with
  | pc => simp at hf
  | _ => rfl

theorem outPA_changesOnly (s : State) (v : Nibble) :
    ChangesOnly [.pa, .emitted] s (s.outPA v) := by
  intro f hf
  cases f with
  | pa | emitted => simp at hf
  | _ => rfl

theorem outPC_changesOnly (s : State) (v : Nibble) :
    ChangesOnly [.portc, .emitted] s (s.outPC v) := by
  intro f hf
  cases f with
  | portc | emitted => simp at hf
  | _ => rfl

theorem startSound_changesOnly (s : State) (n : Nibble) :
    ChangesOnly [.sndSel, .sndOn, .emitted] s (s.startSound n) := by
  intro f hf
  cases f with
  | sndSel | sndOn | emitted => simp at hf
  | _ => rfl

theorem setSoundMode_changesOnly (s : State) (m : SoundMode) :
    ChangesOnly [.sndMode, .emitted] s (s.setSoundMode m) := by
  intro f hf
  cases f with
  | sndMode | emitted => simp at hf
  | _ => rfl

theorem stopSound_changesOnly (s : State) : ChangesOnly [.sndOn, .emitted] s s.stopSound := by
  intro f hf
  cases f with
  | sndOn | emitted => simp at hf
  | _ => rfl

theorem drawn_changesOnly (s : State) : ChangesOnly [.draws] s s.drawn := by
  intro f hf
  cases f with
  | draws => simp at hf
  | _ => rfl

theorem sampled_changesOnly (s : State) : ChangesOnly [.draws] s s.sampled := by
  unfold State.sampled
  split
  · exact drawn_changesOnly s
  · exact changesOnly_refl _ s

theorem callTo_changesOnly (s : State) (a : CodeAddr) :
    ChangesOnly [.stackPc, .sub, .pc] s (s.callTo a) := by
  intro f hf
  cases f with
  | stackPc | sub | pc => simp at hf
  | _ => rfl

theorem returnSub_changesOnly (s : State) : ChangesOnly [.pc, .sub] s s.returnSub := by
  intro f hf
  cases f with
  | pc | sub => simp at hf
  | _ => rfl

theorem returnInt_changesOnly (s : State) : ChangesOnly [.pc, .cf, .sub] s s.returnInt := by
  intro f hf
  cases f with
  | pc | cf | sub => simp at hf
  | _ => rfl

/-! ## The frame of two operations in a row -/

/-- Two operations in a row may change what either may change; the later one's pieces come first. -/
theorem changesOnly_append {l m : List Field} {s t u : State} (hfirst : ChangesOnly l s t)
    (hthen : ChangesOnly m t u) : ChangesOnly (m ++ l) s u :=
  changesOnly_trans (changesOnly_mono hfirst fun _ => List.mem_append_right m)
    (changesOnly_mono hthen fun _ => List.mem_append_left l)

/-- An instruction that ends by moving on to the next one (R26) changes the program counter besides. -/
theorem changesOnly_advance {l : List Field} {s t : State} (h : ChangesOnly l s t) (n : CodeAddr) :
    ChangesOnly (.pc :: l) s (t.advance n) :=
  changesOnly_append h (jump_changesOnly t (t.npc n))

theorem setPair_changesOnly (s : State) (hi lo : Reg) (v : Byte) :
    ChangesOnly [.reg lo, .reg hi] s (s.setPair hi lo v) :=
  changesOnly_append (setReg_changesOnly s hi _) (setReg_changesOnly _ lo _)

theorem tableToR4_changesOnly (s : State) (b : Byte) :
    ChangesOnly [.acc, .reg .r4] s (s.tableToR4 b) :=
  changesOnly_append (setReg_changesOnly s .r4 _) (setAcc_changesOnly _ _)

theorem tableToMem_changesOnly (s : State) (b : Byte) :
    ChangesOnly [.acc, .ramCell (s.cell s.ptr10)] s (s.tableToMem b) :=
  changesOnly_append (memWrite_changesOnly s s.ptr10 _) (setAcc_changesOnly _ _)

/-- A CALL that completes has the effect of R211, wherever it is completed from. -/
theorem execCall_next {a : CodeAddr} {s t : State} (h : execCall a s = .next t) :
    t = s.callTo a := by
  unfold execCall at h
  split at h
  · cases h
  all_goals injection h with h; exact h.symm

/-! ## The frame of an instruction -/

/-- The pieces of state that an instruction may change when it completes in `s`. -/
def writes (s : State) : Instr → List Field
  | .nop | .jmp _ | .jc _ | .jnc _ | .ja0 _ | .ja1 _ | .ja2 _ | .ja3 _ | .jzA _ | .jnzA _
  | .jnzR0 _ | .jnzR1 _ | .jnzR4 _ => [.pc]
  | .jtmr _ => [.tf, .pc]
  | .movAMem10 | .movAMem32 | .movAR0 | .movAR1 | .movAR2 | .movAR3 | .movAR4 | .movAImm _
  | .incA | .decA | .andAMem | .orAMem | .xorAMem | .andAImm _ | .orAImm _ | .xorAImm _ =>
    [.pc, .acc]
  | .inAPM | .inAPS | .movATmrl | .movATmrh => [.pc, .draws, .acc]
  | .addAMem | .adcAMem | .subAMem | .sbcAMem | .addAImm _ | .subAImm _ | .daa
  | .rlA | .rlcA | .rrA | .rrcA => [.pc, .acc, .cf]
  | .clc | .stc => [.pc, .cf]
  | .movR0A | .incR0 | .decR0 => [.pc, .reg .r0]
  | .movR1A | .incR1 | .decR1 => [.pc, .reg .r1]
  | .movR2A | .incR2 | .decR2 => [.pc, .reg .r2]
  | .movR3A | .incR3 | .decR3 => [.pc, .reg .r3]
  | .movR4A | .incR4 | .decR4 | .movR4Imm _ => [.pc, .reg .r4]
  | .movR1R0Imm _ _ => [.pc, .reg .r0, .reg .r1]
  | .movR3R2Imm _ _ => [.pc, .reg .r2, .reg .r3]
  | .movMem10A | .incMem10 | .decMem10 | .andMemA | .orMemA | .xorMemA =>
    [.pc, .ramCell (s.cell s.ptr10)]
  | .movMem32A | .incMem32 | .decMem32 => [.pc, .ramCell (s.cell s.ptr32)]
  | .readR4A | .readfR4A => [.pc, .acc, .reg .r4]
  | .readMR0A | .readfMR0A => [.pc, .acc, .ramCell (s.cell s.ptr10)]
  | .ei | .di => [.pc, .ie]
  | .call _ => [.stackPc, .sub, .pc]
  | .ret => [.pc, .sub]
  | .reti => [.pc, .cf, .sub]
  | .outPAA => [.pc, .pa, .emitted]
  | .outPCA => [.pc, .portc, .emitted]
  | .timerImm _ | .movTmrlA | .movTmrhA => [.pc, .tmr]
  | .timerOn | .timerOff => [.pc, .ton]
  | .soundN _ | .soundA => [.pc, .sndSel, .sndOn, .emitted]
  | .soundOne | .soundLoop => [.pc, .sndMode, .emitted]
  | .soundOff => [.pc, .sndOn, .emitted]
  | .halt => [.pc, .halted]

/-- What an instruction leaves unchanged: everything outside `writes`. By the operations its meaning
is built from. -/
theorem exec_changesOnly {i : Instr} {s t : State} (h : exec i s = .next t) :
    ChangesOnly (writes s i) s t := by
  cases i with
  | call a => rw [execCall_next h]; exact callTo_changesOnly s a
  | nop => cases h; exact changesOnly_advance (changesOnly_refl [] s) _
  | jmp a => cases h; exact jump_changesOnly s a
  | jc | jnc | ja0 | ja1 | ja2 | ja3 | jzA | jnzA | jnzR0 | jnzR1 | jnzR4 =>
    cases h; exact condBranch_changesOnly s _ _
  | jtmr a =>
    cases h; exact changesOnly_append (condBranch_changesOnly s s.tf a) (setTf_changesOnly _ false)
  | movAMem10 | movAMem32 | movAR0 | movAR1 | movAR2 | movAR3 | movAR4 | movAImm | incA | decA
  | andAMem | orAMem | xorAMem | andAImm | orAImm | xorAImm =>
    cases h; exact changesOnly_advance (setAcc_changesOnly s _) _
  | inAPM | inAPS =>
    cases h
    exact changesOnly_advance
      (changesOnly_append (setAcc_changesOnly s _) (drawn_changesOnly _)) _
  | movATmrl | movATmrh =>
    cases h
    exact changesOnly_advance
      (changesOnly_append (setAcc_changesOnly s _) (sampled_changesOnly _)) _
  | addAMem | adcAMem | subAMem | sbcAMem | addAImm | subAImm | daa | rlA | rlcA | rrA | rrcA =>
    cases h; exact changesOnly_advance (setAlu_changesOnly s _) _
  | clc | stc => cases h; exact changesOnly_advance (setCf_changesOnly s _) _
  | movR0A | incR0 | decR0 | movR1A | incR1 | decR1 | movR2A | incR2 | decR2
  | movR3A | incR3 | decR3 | movR4A | incR4 | decR4 | movR4Imm =>
    cases h; exact changesOnly_advance (setReg_changesOnly s _ _) _
  | movR1R0Imm | movR3R2Imm => cases h; exact changesOnly_advance (setPair_changesOnly s _ _ _) _
  | movMem10A | incMem10 | decMem10 | andMemA | orMemA | xorMemA
  | movMem32A | incMem32 | decMem32 =>
    cases h; exact changesOnly_advance (memWrite_changesOnly s _ _) _
  | readR4A | readfR4A => cases h; exact changesOnly_advance (tableToR4_changesOnly s _) _
  | readMR0A | readfMR0A => cases h; exact changesOnly_advance (tableToMem_changesOnly s _) _
  | ei | di => cases h; exact changesOnly_advance (setIe_changesOnly s _) _
  | ret => cases h; exact returnSub_changesOnly s
  | reti => cases h; exact returnInt_changesOnly s
  | outPAA => cases h; exact changesOnly_advance (outPA_changesOnly s _) _
  | outPCA => cases h; exact changesOnly_advance (outPC_changesOnly s _) _
  | timerImm | movTmrlA | movTmrhA => cases h; exact changesOnly_advance (setTmr_changesOnly s _) _
  | timerOn | timerOff => cases h; exact changesOnly_advance (setTon_changesOnly s _) _
  | soundN | soundA => cases h; exact changesOnly_advance (startSound_changesOnly s _) _
  | soundOne | soundLoop => cases h; exact changesOnly_advance (setSoundMode_changesOnly s _) _
  | soundOff => cases h; exact changesOnly_advance (stopSound_changesOnly s) _
  | halt => cases h; exact changesOnly_advance (setHalted_changesOnly s true) _

/-! ## The writers of each piece of state -/

/-- The "written by" column of the state table (10_state.md section 1), read for the instructions
alone. The registers, data memory and the model's trace and draw counter are left open here: what an
instruction writes of them stands in `writes`. -/
def IsWriter : Field → Instr → Prop
  | .pb, _ | .rtcf, _ | .stackCf, _ | .rom, _ | .pins, _ | .cfg, _ | .schedule, _ | .epoch, _ =>
    False
  | .cf, i =>
    i ∈ [.addAMem, .adcAMem, .subAMem, .sbcAMem, .daa, .rlA, .rlcA, .rrA, .rrcA, .reti, .clc, .stc] ∨
      (∃ x, i = .addAImm x) ∨ ∃ x, i = .subAImm x
  | .tf, i => ∃ a, i = .jtmr a
  | .ie, i => i = .ei ∨ i = .di
  | .sub, i => (∃ a, i = .call a) ∨ i = .ret ∨ i = .reti
  | .stackPc, i => ∃ a, i = .call a
  | .tmr, i => (∃ xx, i = .timerImm xx) ∨ i = .movTmrlA ∨ i = .movTmrhA
  | .ton, i => i = .timerOn ∨ i = .timerOff
  | .pa, i => i = .outPAA
  | .portc, i => i = .outPCA
  | .sndSel, i => (∃ n, i = .soundN n) ∨ i = .soundA
  | .sndMode, i => i = .soundOne ∨ i = .soundLoop
  | .sndOn, i => (∃ n, i = .soundN n) ∨ i = .soundA ∨ i = .soundOff
  | .halted, i => i = .halt
  | .acc, _ | .reg _, _ | .pc, _ | .ramCell _, _ | .emitted, _ | .draws, _ => True

/-- The frame of every instruction agrees with the state table: first the pieces in the frame are
enumerated, then each is looked up in its row. -/
theorem isWriter_of_mem_writes (s : State) (i : Instr) : ∀ f ∈ writes s i, IsWriter f i := by
  cases i <;> simp [writes] <;> simp [IsWriter]

/-- A piece of state of which `i` is no writer is the same after `i`. -/
theorem exec_same_of_not_isWriter {i : Instr} {s t : State} (h : exec i s = .next t) (f : Field)
    (hf : ¬ IsWriter f i) : f.same s t :=
  exec_changesOnly h f fun hmem => hf (isWriter_of_mem_writes s i f hmem)

/-- Settles O15: CF is outside the frame of every instruction without a mark in its column. -/
theorem onlyTheMarkedInstructionsWriteTheCarry :
    Obligations.OnlyTheMarkedInstructionsWriteTheCarry := by
  intro i s t h hlist hadd hsub
  refine exec_same_of_not_isWriter h .cf ?_
  rintro (hmem | ⟨x, rfl⟩ | ⟨x, rfl⟩)
  · exact hlist hmem
  · exact hadd x rfl
  · exact hsub x rfl

/-- JTMR clears TF whether or not the branch is taken (R200). -/
theorem jtmr_clears_tf {a : HalfAddr} {s t : State} (h : exec (.jtmr a) s = .next t) :
    t.tf = false := by
  cases h
  exact setTf_tf _ false

/-- Settles O16, by the frame of each instruction and what JTMR leaves in TF. -/
theorem controlStateWriters : Obligations.ControlStateWriters := by
  intro i s t h
  have keeps := exec_same_of_not_isWriter h
  refine ⟨fun hjtmr => keeps .tf (not_exists.2 hjtmr), ?_,
    fun hei hdi => keeps .ie (not_or.2 ⟨hei, hdi⟩), keeps .rtcf id, keeps .stackCf id,
    fun hcall => keeps .stackPc (not_exists.2 hcall),
    fun hcall hret hreti => keeps .sub (not_or.2 ⟨not_exists.2 hcall, not_or.2 ⟨hret, hreti⟩⟩)⟩
  rintro ⟨a, rfl⟩
  exact jtmr_clears_tf h

/-- Settles O17, by the frame of each instruction. -/
theorem latchAndDeviceWriters : Obligations.LatchAndDeviceWriters := by
  intro i s t h
  have keeps := exec_same_of_not_isWriter h
  exact ⟨keeps .pa, keeps .portc,
    fun himm hlow hhigh => keeps .tmr (not_or.2 ⟨not_exists.2 himm, not_or.2 ⟨hlow, hhigh⟩⟩),
    fun hon hoff => keeps .ton (not_or.2 ⟨hon, hoff⟩),
    fun hone hloop => keeps .sndMode (not_or.2 ⟨hone, hloop⟩),
    fun hn ha => keeps .sndSel (not_or.2 ⟨not_exists.2 hn, ha⟩),
    fun hn ha hoff => keeps .sndOn (not_or.2 ⟨not_exists.2 hn, not_or.2 ⟨ha, hoff⟩⟩),
    keeps .halted, keeps .rom id, keeps .cfg id, keeps .pins id, keeps .schedule id,
    keeps .epoch id⟩

end Sys2Proof.Proofs
end

section
/-! What the boundary keeps, and the ROM bank latch that nothing writes. -/

namespace Sys2Proof.Proofs
open Sys2Proof.Machine

/-- What each event and the wake-up check keep, a batch of events keeps. -/
theorem applyEvents_induction {P : State → Prop} (hwake : ∀ s, P s → P s.wake)
    (hevent : ∀ s e, P s → P (s.applyEvent e)) (es : List Event) :
    ∀ s : State, P s → P (s.applyEvents es) := by
  induction es with
  | nil => exact fun _ h => h
  | cons e es ih => exact fun s h => ih _ (hwake _ (hevent s e h))

/-- What each event and the wake-up check keep, whatever is still scheduled, the boundary keeps. -/
theorem boundary_induction {P : State → Prop} (hwake : ∀ s, P s → P s.wake)
    (hevent : ∀ s e, P s → P (s.applyEvent e))
    (hschedule : ∀ s rest, P s → P { s with schedule := rest }) {s : State} (h : P s) :
    P s.boundary := by
  match hs : s.schedule with
  | [] => rw [boundary_of_no_event s hs]; exact hwake s h
  | es :: rest =>
    rw [boundary_of_batch s hs]
    exact applyEvents_induction hwake hevent es _ (hwake _ (hschedule s rest h))

/-- No writer of the ROM bank latch is named (D11), and it selects bank 0. -/
def BankZero (s : State) : Prop := s.cfg.pbWriter = false ∧ s.pb = 0#2

/-- Without a writer one event either keeps the bank latch or resets it to 00. -/
theorem applyEvent_pb {s : State} (hw : s.cfg.pbWriter = false) (e : Event) :
    (s.applyEvent e).pb = s.pb ∨ (s.applyEvent e).pb = 0#2 := by
  cases e with
  | resLow => exact .inr rfl
  | rtc | pins p => exact .inl rfl
  | writePB v => left; simp [State.applyEvent, hw]
  | soundEnd => left; unfold State.applyEvent; dsimp only; split <;> simp
  | internalTick =>
    left; unfold State.applyEvent; dsimp only
    split
    · rfl
    · split <;> simp
  | tmclkRise =>
    left; unfold State.applyEvent; dsimp only
    split
    · split <;> simp
    · rfl

theorem applyEvent_bankZero {s : State} (h : BankZero s) (e : Event) :
    BankZero (s.applyEvent e) := by
  obtain ⟨hwriter, hpb⟩ := h
  obtain ⟨-, hcfg, -, -⟩ := applyEvent_keeps s e
  refine ⟨by rw [hcfg, hwriter], ?_⟩
  rcases applyEvent_pb hwriter e with hkept | hreset
  · rw [hkept, hpb]
  · exact hreset

theorem boundary_bankZero {s : State} (h : BankZero s) : BankZero s.boundary :=
  boundary_induction (P := BankZero) (fun _ h => h) (fun _ e h => applyEvent_bankZero h e)
    (fun _ _ h => h) h

/-- No instruction writes the ROM bank latch (R29). -/
theorem exec_pb {i : Instr} {s t : State} (h : exec i s = .next t) : t.pb = s.pb :=
  exec_same_of_not_isWriter h .pb id

/-- Settles O14: after the boundary neither the interrupt entry nor an instruction writes PB. -/
theorem romBankStaysZeroWithoutAWriter : Obligations.RomBankStaysZeroWithoutAWriter := by
  refine ⟨fun i s t h => exec_pb h, fun s t hwriter hpb h => ?_⟩
  obtain ⟨-, hzero⟩ := boundary_bankZero ⟨hwriter, hpb⟩
  rcases step_cases h with ⟨-, rfl⟩ | ⟨-, -, rfl⟩ | ⟨-, -, i, -, hexec⟩
  · exact hzero
  · rw [takeInterrupt_pb, hzero]
  · rw [exec_pb hexec, hzero]

end Sys2Proof.Proofs
end

section
/-! Memory: what a step keeps of program memory, where an instruction stores, and loads after stores
(20_memory.md). -/

namespace Sys2Proof.Proofs
open Sys2Proof.Machine

/-! ## The step around the instruction -/

/-- What decodes at the program counter is what the fetch of R65 answers. -/
theorem fetch_of_decode {s : State} {i : Instr} {rest : List Byte}
    (h : decode [s.romRead s.pc, s.romRead (s.pc + 1#12)] = .ok (i, rest)) : s.fetch = .ok i := by
  have hbytes : decode s.fetchBytes = .ok (i, rest) := h
  unfold State.fetch
  rw [hbytes]

/-- A core that runs and accepts no interrupt executes what it fetches (R276). -/
theorem step_of_fetch {s : State} {i : Instr} (hrun : s.boundary.halted = false)
    (hint : s.boundary.interruptAccepted = false) (hfetch : s.boundary.fetch = .ok i) :
    step s = exec i s.boundary := by
  simp [step, hrun, hint, hfetch]

/-- Settles O5: neither HALT nor an interrupt comes first, so the step is what it fetches. -/
theorem stepRunsTheDecodedInstruction : Obligations.StepRunsTheDecodedInstruction := by
  intro s i rest hrun hint hdecode
  exact step_of_fetch hrun hint (fetch_of_decode hdecode)

/-! ## Program memory and the options -/

/-- No instruction writes the mask ROM or the mask options (R60, R47). -/
theorem exec_rom_cfg {i : Instr} {s t : State} (h : exec i s = .next t) :
    t.rom = s.rom ∧ t.cfg = s.cfg :=
  ⟨exec_same_of_not_isWriter h .rom id, exec_same_of_not_isWriter h .cfg id⟩

/-- Settles O13: the boundary keeps both, whatever its events, and so does what follows it. -/
theorem stepNeverWritesRomOrOptions : Obligations.StepNeverWritesRomOrOptions := by
  intro s t h
  obtain ⟨hrom, hcfg, -, -⟩ := boundary_keeps s
  rcases step_cases h with ⟨-, rfl⟩ | ⟨-, -, rfl⟩ | ⟨-, -, i, -, hexec⟩
  · exact ⟨hrom, hcfg⟩
  · exact ⟨by rw [takeInterrupt_rom, hrom], by rw [takeInterrupt_cfg, hcfg]⟩
  · obtain ⟨hromExec, hcfgExec⟩ := exec_rom_cfg hexec
    exact ⟨hromExec.trans hrom, hcfgExec.trans hcfg⟩

/-! ## Data memory as a list -/

/-- An instruction leaves the list of written cells alone, or makes one store to it. -/
theorem exec_ram {i : Instr} {s t : State} (h : exec i s = .next t) :
    t.ram = s.ram ∨ ∃ a v, t.ram = (s.memWrite a v).ram := by
  cases i with
  | movMem10A | incMem10 | decMem10 | andMemA | orMemA | xorMemA
  | movMem32A | incMem32 | decMem32 | readMR0A | readfMR0A => cases h; exact .inr ⟨_, _, rfl⟩
  | call a => rw [execCall_next h]; exact .inl (callTo_ram s a)
  | jc | jnc | ja0 | ja1 | ja2 | ja3 | jzA | jnzA | jnzR0 | jnzR1 | jnzR4 | jtmr =>
    cases h; exact .inl (condBranch_ram s _ _)
  | movATmrl | movATmrh => cases h; exact .inl (sampled_ram _)
  | _ => cases h; exact .inl rfl

/-- An instruction keeps data memory canonical (R66). -/
theorem exec_keeps_ram_wf {i : Instr} {s t : State} (hwf : s.ram.wf ramSize)
    (h : exec i s = .next t) : t.ram.wf ramSize := by
  rcases exec_ram h with hsame | ⟨a, v, hstore⟩
  · rwa [hsame]
  · rw [hstore]; exact memWrite_wf s a v hwf

/-- The events of the boundary keep data memory canonical: a RES pulse empties it, and no other event
reaches it. -/
theorem boundary_keeps_ram_wf {s : State} (hwf : s.ram.wf ramSize) :
    s.boundary.ram.wf ramSize := by
  obtain ⟨-, -, -, hsame | hempty⟩ := boundary_keeps s
  · rwa [hsame]
  · rw [hempty]; exact ⟨List.Pairwise.nil, List.forall_mem_nil _⟩

/-- Settles O11: data memory through the boundary, the interrupt entry and the instruction; program
memory because no step writes it. -/
theorem stepKeepsTheMemoriesCanonical : Obligations.StepKeepsTheMemoriesCanonical := by
  rintro s t ⟨hram, hrom⟩ h
  obtain ⟨hromSame, -⟩ := stepNeverWritesRomOrOptions s t h
  have hboundary := boundary_keeps_ram_wf hram
  refine ⟨?_, by rwa [hromSame]⟩
  rcases step_cases h with ⟨-, rfl⟩ | ⟨-, -, rfl⟩ | ⟨-, -, i, -, hexec⟩
  · exact hboundary
  · rwa [takeInterrupt_ram]
  · exact exec_keeps_ram_wf hboundary hexec

/-! ## Which cell an instruction stores to -/

/-- The instructions that store to data memory (R74). -/
def memoryWriters : List Instr :=
  [.incMem10, .decMem10, .incMem32, .decMem32, .movMem10A, .movMem32A, .andMemA, .orMemA, .xorMemA,
    .readMR0A, .readfMR0A]

/-- A cell in the frame of an instruction is one a pointer points to, and the instruction a store. -/
theorem ramCell_mem_writes {s : State} {i : Instr} {k : Nat} (h : .ramCell k ∈ writes s i) :
    (k = s.cell s.ptr10 ∨ k = s.cell s.ptr32) ∧ i ∈ memoryWriters := by
  cases i with
  | movMem10A | incMem10 | decMem10 | andMemA | orMemA | xorMemA | readMR0A | readfMR0A =>
    have hk : k = s.cell s.ptr10 := by simpa [writes] using h
    exact ⟨.inl hk, by decide⟩
  | movMem32A | incMem32 | decMem32 =>
    have hk : k = s.cell s.ptr32 := by simpa [writes] using h
    exact ⟨.inr hk, by decide⟩
  | _ => simp [writes] at h

/-- Settles O18, by the frame of each instruction. -/
theorem storesReachOnlyThePointedCell : Obligations.StoresReachOnlyThePointedCell := by
  intro i s t h
  have keeps (k : Nat) (hk : .ramCell k ∉ writes s i) : t.ramCell k = s.ramCell k :=
    exec_changesOnly h (.ramCell k) hk
  refine ⟨fun k h10 h32 => keeps k fun hmem => ?_, fun hi k => keeps k fun hmem => ?_⟩
  · obtain ⟨hpointed, -⟩ := ramCell_mem_writes hmem
    exact hpointed.elim h10 h32
  · exact hi (ramCell_mem_writes hmem).2

/-! ## Loads and stores by data address -/

/-- A load returns the latest store to its address, and no other store (R67). -/
theorem memRead_memWrite (s : State) (a b : Byte) (v : Nibble) :
    (s.memWrite a v).memRead b = if a = b then v else s.memRead b := by
  by_cases hab : a = b
  · subst hab
    rw [if_pos rfl]
    exact memWrite_ramCell_same s a v
  · have hcell : s.cell b ≠ s.cell a := fun h => hab ((cell_inj s b a).1 h).symm
    rw [if_neg hab]
    exact memWrite_ramCell_other s a v hcell

/-- With the other RAM bank selected, an address names the same cell only in the display area
(R67). -/
theorem cell_otherBank (s : State) {p : Nibble} (hp : p.getLsbD 0 ≠ s.portc.getLsbD 0)
    (a b : Byte) : State.cell { s with portc := p } a = s.cell b ↔ a = b ∧ 128 ≤ a.toNat := by
  have hother : p.getLsbD 0 = !s.portc.getLsbD 0 := Bool.eq_not_of_ne hp
  rw [cell_eq, cell_eq, ← BitVec.toNat_inj]
  simp only [hother]
  cases s.portc.getLsbD 0 <;>
    simp only [Bool.not_false, Bool.not_true, Bool.false_eq_true, if_true, if_false, ite_self] <;>
    split_ifs <;> omega

/-- Settles O33, from the reading rule, the bound on cells and the disjointness of the banks. -/
theorem loadAfterStore : Obligations.LoadAfterStore := fun s a b v =>
  ⟨memRead_memWrite s a b v, cell_lt_ramSize s a, fun _ hp => cell_otherBank s hp a b⟩

end Sys2Proof.Proofs
end

section
/-! The encoding (30_encoding.md): the forms of a first byte, what the decoder answers for each of
them, and from it both directions of the round trip and the rejected bytes. -/

namespace Sys2Proof.Proofs
open Sys2Proof.Machine Sys2Proof.Laws

/-! ## The decoder, by the length of the instruction -/

/-- A first byte of length one: the decoder reads it alone (R92). -/
theorem decode_of_oneByte {b : Byte} (hlen : isTwoByte b = false) (rest : List Byte) :
    decode (b :: rest) = (decodeOne b).map (·, rest) := by
  cases h : decodeOne b <;> simp [decode, hlen, h, Except.map]

/-- A first byte of length two: the decoder reads it with the byte after it (R92). -/
theorem decode_of_twoByte {b1 : Byte} (hlen : isTwoByte b1 = true) (b2 : Byte) (rest : List Byte) :
    decode (b1 :: b2 :: rest) = (decodeTwo b1 b2).map (·, rest) := by
  cases h : decodeTwo b1 b2 <;> simp [decode, hlen, h, Except.map]

/-- A single byte that begins a two-byte instruction is a truncated one. -/
theorem decode_truncated {b : Byte} (hlen : isTwoByte b = true) :
    decode [b] = .error .truncated := by
  simp [decode, hlen]

/-! ## Bytes and their fields -/

/-- The number of a byte written as two nibbles. -/
theorem toNat_append_nibbles (x y : Nibble) : (x ++ y : Byte).toNat = 16 * x.toNat + y.toNat := by
  rw [toNat_nibbles, append_high, append_low]

/-- A byte in the sixteen of a high nibble is that nibble followed by its own low one. -/
theorem eq_append_low {b : Byte} {n : Nibble} (h : b.toNat / 16 = n.toNat) :
    b = n ++ b.extractLsb' 0 4 := by
  have hhigh : b.extractLsb' 4 4 = n := by
    have hb := toNat_nibbles b
    apply BitVec.eq_of_toNat_eq
    omega
  rw [← hhigh, append_nibbles]

/-- The constrained high nibble of a second byte, in numbers (R105). -/
theorem high_nibble_eq_zero_iff (b : Byte) : b.extractLsb' 4 4 = 0#4 ↔ b.toNat < 0x10 := by
  rw [← BitVec.toNat_inj, toNat_nibbles b]
  simp only [BitVec.toNat_ofNat]
  omega

/-- The number of a byte written as a five-bit opcode and three address bits (R97). -/
theorem toNat_append_cond (c : BitVec 5) (h : BitVec 3) :
    (c ++ h : Byte).toNat = 8 * c.toNat + h.toNat := by
  revert c h; decide

/-- A byte is made of its five-bit opcode and its three address bits (R97). -/
theorem append_cond_fields (b : Byte) : b.extractLsb' 3 5 ++ b.extractLsb' 0 3 = b := by
  revert b; decide

/-- A branch address is made of the two fields that encode it (R97). -/
theorem append_halfAddr (a : HalfAddr) : a.extractLsb' 8 3 ++ a.extractLsb' 0 8 = a := by
  rw [BitVec.extractLsb'_append_extractLsb'_eq_extractLsb' (Nat.zero_add 8).symm,
    BitVec.extractLsb'_eq_self]

/-- A jump address is made of the two fields that encode it (R96). -/
theorem append_codeAddr (a : CodeAddr) : a.extractLsb' 8 4 ++ a.extractLsb' 0 8 = a := by
  rw [BitVec.extractLsb'_append_extractLsb'_eq_extractLsb' (Nat.zero_add 8).symm,
    BitVec.extractLsb'_eq_self]

/-- The two bytes of a conditional branch whose address is given by its fields (R97). -/
theorem encodeCond_append (c : BitVec 5) (h : BitVec 3) (l : Byte) :
    encodeCond c (h ++ l) = [c ++ h, l] := by
  simp only [encodeCond, BitVec.extractLsb'_append_eq_left, BitVec.extractLsb'_append_eq_right]

/-- The two bytes of a `JMP` whose address is given by its fields (R96). -/
theorem encode_jmp (h : Nibble) (l : Byte) : encode (.jmp (h ++ l)) = [0xE#4 ++ h, l] := by
  simp only [encode, BitVec.extractLsb'_append_eq_left, BitVec.extractLsb'_append_eq_right]

/-- The two bytes of a `CALL` whose address is given by its fields (R96). -/
theorem encode_call (h : Nibble) (l : Byte) : encode (.call (h ++ l)) = [0xF#4 ++ h, l] := by
  simp only [encode, BitVec.extractLsb'_append_eq_left, BitVec.extractLsb'_append_eq_right]

/-! ## The forms of two bytes -/

/-- Five-bit opcodes of the conditional branches (R205). -/
def IsCond (c : BitVec 5) : Prop := 0b10000 ≤ c.toNat ∧ c.toNat ≤ 0b11011

/-- The first byte of a conditional branch is 80H or more (R103). -/
theorem toNat_cond_ge {c : BitVec 5} (hc : IsCond c) (h : BitVec 3) :
    0x80 ≤ (c ++ h : Byte).toNat := by
  obtain ⟨hlow, -⟩ := hc
  rw [toNat_append_cond]
  omega

/-- A first byte with its top bit set, as `JMP` and `CALL` have, is 80H or more (R103). -/
theorem toNat_jump_ge {n : Nibble} (hn : 8 ≤ n.toNat) (h : Nibble) :
    0x80 ≤ (n ++ h : Byte).toNat := by
  rw [toNat_append_nibbles]
  omega

/-- The first bytes of the two-byte instructions, form by form (R92, R103). -/
inductive TwoByteHead : Byte → Prop where
  /-- `HALT`. -/
  | halt : TwoByteHead 0x37#8
  /-- `TIMER XXH`. -/
  | timer : TwoByteHead 0x47#8
  /-- The forms `F2I`. -/
  | imm (op : Nibble) (hop : op.toNat ≤ 6) : TwoByteHead (0x4#4 ++ op)
  /-- `MOV R1R0,XXH`. -/
  | pair10 (d1 : Nibble) : TwoByteHead (0x5#4 ++ d1)
  /-- `MOV R3R2,XXH`. -/
  | pair32 (d1 : Nibble) : TwoByteHead (0x6#4 ++ d1)
  /-- The conditional branches. -/
  | cond (c : BitVec 5) (hc : IsCond c) (h : BitVec 3) : TwoByteHead (c ++ h)
  /-- `JMP address`. -/
  | jmp (h : Nibble) : TwoByteHead (0xE#4 ++ h)
  /-- `CALL address`. -/
  | call (h : Nibble) : TwoByteHead (0xF#4 ++ h)

/-- A first byte from 80H on begins a conditional branch, a `JMP` or a `CALL` (R103). -/
theorem twoByteHead_of_high {b : Byte} (hb : 0x80 ≤ b.toNat) : TwoByteHead b := by
  have hlt := b.isLt
  by_cases hF : 0xF0 ≤ b.toNat
  · rw [eq_append_low (b := b) (n := 0xF#4) (by simp; omega)]
    exact .call _
  by_cases hE : 0xE0 ≤ b.toNat
  · rw [eq_append_low (b := b) (n := 0xE#4) (by simp; omega)]
    exact .jmp _
  have hfields := toNat_append_cond (b.extractLsb' 3 5) (b.extractLsb' 0 3)
  rw [append_cond_fields] at hfields
  rw [← append_cond_fields b]
  have hlow := (b.extractLsb' 0 3).isLt
  exact .cond _ ⟨by omega, by omega⟩ _

/-- The forms are exhaustive. -/
theorem twoByteHead_of_isTwoByte {b : Byte} (hb : isTwoByte b = true) : TwoByteHead b := by
  simp only [isTwoByte, Bool.or_eq_true, Bool.and_eq_true, decide_eq_true_eq, beq_iff_eq] at hb
  rcases hb with ((rfl | h4) | h56) | h8
  · exact .halt
  · by_cases h47 : b = 0x47#8
    · exact h47 ▸ .timer
    have hne : b.toNat ≠ 0x47 := fun h => h47 (BitVec.eq_of_toNat_eq h)
    have happ := eq_append_low (b := b) (n := 0x4#4) (by simp; omega)
    have hnum := congrArg BitVec.toNat happ
    rw [toNat_append_nibbles] at hnum
    rw [happ]
    exact .imm _ (by simp at hnum ⊢; omega)
  · by_cases h6 : 0x60 ≤ b.toNat
    · rw [eq_append_low (b := b) (n := 0x6#4) (by simp; omega)]
      exact .pair32 _
    · rw [eq_append_low (b := b) (n := 0x5#4) (by simp; omega)]
      exact .pair10 _
  · exact twoByteHead_of_high h8

/-- Every form has two bytes. -/
theorem TwoByteHead.isTwoByte {b : Byte} (hb : TwoByteHead b) : isTwoByte b = true := by
  cases hb with
  | halt => rfl
  | timer => rfl
  | imm op hop => revert op; decide
  | pair10 d1 => exact isTwoByte_of_pair1 d1
  | pair32 d1 => exact isTwoByte_of_pair2 d1
  | cond c hc h =>
    simp only [Sys2Proof.isTwoByte, Bool.or_eq_true, decide_eq_true_eq]
    exact .inr (toNat_cond_ge hc h)
  | jmp h => exact isTwoByte_of_jump _ rfl h
  | call h => exact isTwoByte_of_jump _ rfl h

/-! ## What the decoder answers for each form -/

/-- The forms `F2I` (R105, R107). -/
theorem decodeTwo_imm {op : Nibble} (hop : op.toNat ≤ 6) (b2 : Byte) :
    decodeTwo (0x4#4 ++ op) b2 =
      if b2.extractLsb' 4 4 = 0#4 then immForm op (b2.extractLsb' 0 4)
      else .error .badSecondByte := by
  have hne : ¬ (0x4#4 ++ op : Byte) = 0x47#8 := by
    intro h
    have hlow := congrArg (BitVec.extractLsb' 0 4) h
    rw [append_low] at hlow
    subst hlow
    exact absurd hop (by decide)
  simp only [decodeTwo, append_high, append_low, if_neg hne] <;> rfl

/-- `MOV R1R0,XXH` (R105, R107). -/
theorem decodeTwo_pair10 (d1 : Nibble) (b2 : Byte) :
    decodeTwo (0x5#4 ++ d1) b2 =
      if b2.extractLsb' 4 4 = 0#4 then .ok (.movR1R0Imm d1 (b2.extractLsb' 0 4))
      else .error .badSecondByte := by
  simp only [decodeTwo, append_high, append_low] <;> rfl

/-- `MOV R3R2,XXH` (R105, R107). -/
theorem decodeTwo_pair32 (d1 : Nibble) (b2 : Byte) :
    decodeTwo (0x6#4 ++ d1) b2 =
      if b2.extractLsb' 4 4 = 0#4 then .ok (.movR3R2Imm d1 (b2.extractLsb' 0 4))
      else .error .badSecondByte := by
  simp only [decodeTwo, append_high, append_low] <;> rfl

/-- `JMP` (R96, R107). -/
theorem decodeTwo_jmp (h : Nibble) (l : Byte) :
    decodeTwo (0xE#4 ++ h) l = .ok (.jmp (h ++ l)) := by
  simp only [decodeTwo, append_high, append_low] <;> rfl

/-- `CALL` (R96, R107). -/
theorem decodeTwo_call (h : Nibble) (l : Byte) :
    decodeTwo (0xF#4 ++ h) l = .ok (.call (h ++ l)) := by
  simp only [decodeTwo, append_high, append_low] <;> rfl

/-- The conditional branches (R97, R107): their high nibbles 8..D are of no other form. -/
theorem decodeTwo_cond {c : BitVec 5} (hc : IsCond c) (h : BitVec 3) (l : Byte) :
    decodeTwo (c ++ h) l = condForm c (h ++ l) := by
  obtain ⟨hlow, hhigh⟩ := hc
  have hnum := toNat_append_cond c h
  rw [toNat_nibbles] at hnum
  have hop : (c ++ h : Byte).extractLsb' 3 5 = c := BitVec.extractLsb'_append_eq_left
  have haddr : (c ++ h : Byte).extractLsb' 0 3 = h := BitVec.extractLsb'_append_eq_right
  unfold decodeTwo
  split
  case h_7 => rw [hop, haddr]
  all_goals omega

/-- Every opcode of `F2I` decodes, and to the instruction these two bytes encode (R103). -/
theorem immForm_encodes {op : Nibble} (hop : op.toNat ≤ 6) (x : Nibble) :
    ∃ i, immForm op x = .ok i ∧ encode i = [0x4#4 ++ op, 0x0#4 ++ x] := by
  have hcases : op = 0 ∨ op = 1 ∨ op = 2 ∨ op = 3 ∨ op = 4 ∨ op = 5 ∨ op = 6 := by
    revert op; decide
  rcases hcases with rfl | rfl | rfl | rfl | rfl | rfl | rfl <;> exact ⟨_, rfl, rfl⟩

/-- Every opcode of a conditional branch decodes, and to the branch it encodes (R205). -/
theorem condForm_encodes {c : BitVec 5} (hc : IsCond c) (a : HalfAddr) :
    ∃ i, condForm c a = .ok i ∧ encode i = encodeCond c a := by
  have hcases : c = 16 ∨ c = 17 ∨ c = 18 ∨ c = 19 ∨ c = 20 ∨ c = 21 ∨ c = 22 ∨ c = 23 ∨ c = 24 ∨
      c = 25 ∨ c = 26 ∨ c = 27 := by
    unfold IsCond at hc
    revert c; decide
  rcases hcases with rfl | rfl | rfl | rfl | rfl | rfl | rfl | rfl | rfl | rfl | rfl | rfl <;>
    exact ⟨_, rfl, rfl⟩

/-! ## Decoding what is encoded -/

/-- The words of `F2I`. -/
theorem decode_imm {op x : Nibble} {i : Instr} (hop : op.toNat ≤ 6) (hi : immForm op x = .ok i)
    (rest : List Byte) : decode ((0x4#4 ++ op) :: (0x0#4 ++ x) :: rest) = .ok (i, rest) := by
  rw [decode_of_twoByte (TwoByteHead.imm op hop).isTwoByte, decodeTwo_imm hop, append_high,
    append_low, if_pos rfl, hi]
  rfl

/-- The words of `MOV R1R0,XXH`. -/
theorem decode_pair10 (d1 d2 : Nibble) (rest : List Byte) :
    decode ((0x5#4 ++ d1) :: (0x0#4 ++ d2) :: rest) = .ok (.movR1R0Imm d1 d2, rest) := by
  rw [decode_of_twoByte (TwoByteHead.pair10 d1).isTwoByte, decodeTwo_pair10, append_high,
    append_low, if_pos rfl]
  rfl

/-- The words of `MOV R3R2,XXH`. -/
theorem decode_pair32 (d1 d2 : Nibble) (rest : List Byte) :
    decode ((0x6#4 ++ d1) :: (0x0#4 ++ d2) :: rest) = .ok (.movR3R2Imm d1 d2, rest) := by
  rw [decode_of_twoByte (TwoByteHead.pair32 d1).isTwoByte, decodeTwo_pair32, append_high,
    append_low, if_pos rfl]
  rfl

/-- The words of a conditional branch. -/
theorem decode_cond {c : BitVec 5} {h : BitVec 3} {l : Byte} {i : Instr} (hc : IsCond c)
    (hi : condForm c (h ++ l) = .ok i) (rest : List Byte) :
    decode ((c ++ h) :: l :: rest) = .ok (i, rest) := by
  rw [decode_of_twoByte (TwoByteHead.cond c hc h).isTwoByte, decodeTwo_cond hc, hi]
  rfl

/-- The words of `JMP`. -/
theorem decode_jmp (h : Nibble) (l : Byte) (rest : List Byte) :
    decode ((0xE#4 ++ h) :: l :: rest) = .ok (.jmp (h ++ l), rest) := by
  rw [decode_of_twoByte (TwoByteHead.jmp h).isTwoByte, decodeTwo_jmp]
  rfl

/-- The words of `CALL`. -/
theorem decode_call (h : Nibble) (l : Byte) (rest : List Byte) :
    decode ((0xF#4 ++ h) :: l :: rest) = .ok (.call (h ++ l), rest) := by
  rw [decode_of_twoByte (TwoByteHead.call h).isTwoByte, decodeTwo_call]
  rfl

/-- The words of `MOV A,XH`. -/
theorem decode_movAImm (x : Nibble) (rest : List Byte) :
    decode ((0x7#4 ++ x) :: rest) = .ok (.movAImm x, rest) := by
  rw [decode_of_oneByte (not_isTwoByte_movAImm x), decodeOne, append_high, append_low, if_pos rfl]
  rfl

/-- A conditional branch is read from its encoding (R97). -/
theorem decode_encodeCond {c : BitVec 5} {a : HalfAddr} {i : Instr} (hc : IsCond c)
    (hi : condForm c a = .ok i) (rest : List Byte) :
    decode (encodeCond c a ++ rest) = .ok (i, rest) :=
  decode_cond hc ((append_halfAddr a).symm ▸ hi) rest

/-- Settles O1, by the form of the instruction; one with no operand field evaluates. -/
theorem decodeOfEncodeIsTheInstruction : Obligations.DecodeOfEncodeIsTheInstruction := by
  intro i rest
  cases i with
  | addAImm x => exact decode_imm (op := 0) (by decide) rfl rest
  | subAImm x => exact decode_imm (op := 1) (by decide) rfl rest
  | andAImm x => exact decode_imm (op := 2) (by decide) rfl rest
  | xorAImm x => exact decode_imm (op := 3) (by decide) rfl rest
  | orAImm x => exact decode_imm (op := 4) (by decide) rfl rest
  | soundN n => exact decode_imm (op := 5) (by decide) rfl rest
  | movR4Imm x => exact decode_imm (op := 6) (by decide) rfl rest
  | movR1R0Imm d1 d2 => exact decode_pair10 d1 d2 rest
  | movR3R2Imm d1 d2 => exact decode_pair32 d1 d2 rest
  | movAImm x => exact decode_movAImm x rest
  | ja0 a | ja1 a | ja2 a | ja3 a | jnzR0 a | jnzR1 a | jzA a | jnzA a | jc a | jnc a | jtmr a
  | jnzR4 a => exact decode_encodeCond ⟨by decide, by decide⟩ rfl rest
  | jmp a =>
    have h := decode_jmp (a.extractLsb' 8 4) (a.extractLsb' 0 8) rest
    rwa [append_codeAddr] at h
  | call a =>
    have h := decode_call (a.extractLsb' 8 4) (a.extractLsb' 0 8) rest
    rwa [append_codeAddr] at h
  | _ => rfl

/-- Settles O4, from the round trip; the address of a branch or jump is given by its fields. -/
theorem writtenOutWordsDecode : Obligations.WrittenOutWordsDecode := by
  have roundTrip (i : Instr) : decode (encode i ++ []) = .ok (i, []) :=
    decodeOfEncodeIsTheInstruction i []
  refine ⟨roundTrip .rrA, roundTrip .rlA, roundTrip .rrcA, roundTrip .rlcA, roundTrip .movAMem10,
    roundTrip .movMem10A, roundTrip .movAMem32, roundTrip .movMem32A, roundTrip .adcAMem,
    roundTrip .addAMem, roundTrip .sbcAMem, roundTrip .subAMem, roundTrip .incMem10,
    roundTrip .decMem10, roundTrip .incMem32, roundTrip .decMem32, roundTrip .incR0,
    roundTrip .decR0, roundTrip .incR1, roundTrip .decR1, roundTrip .incR2, roundTrip .decR2,
    roundTrip .incR3, roundTrip .decR3, roundTrip .incR4, roundTrip .decR4, roundTrip .andAMem,
    roundTrip .xorAMem, roundTrip .orAMem, roundTrip .andMemA, roundTrip .xorMemA,
    roundTrip .orMemA, roundTrip .movR0A, roundTrip .movAR0, roundTrip .movR1A, roundTrip .movAR1,
    roundTrip .movR2A, roundTrip .movAR2, roundTrip .movR3A, roundTrip .movAR3, roundTrip .movR4A,
    roundTrip .movAR4, roundTrip .clc, roundTrip .stc, roundTrip .ei, roundTrip .di,
    roundTrip .ret, roundTrip .reti, roundTrip .outPAA, roundTrip .incA, roundTrip .inAPM,
    roundTrip .inAPS, roundTrip .outPCA, roundTrip .daa, roundTrip .timerOn, roundTrip .timerOff,
    roundTrip .movATmrl, roundTrip .movATmrh, roundTrip .movTmrlA, roundTrip .movTmrhA,
    roundTrip .nop, roundTrip .decA, roundTrip .soundOne, roundTrip .soundLoop,
    roundTrip .soundOff, roundTrip .soundA, roundTrip .readR4A, roundTrip .readfR4A,
    roundTrip .readMR0A, roundTrip .readfMR0A, roundTrip .halt,
    fun x => ⟨roundTrip (.addAImm x), roundTrip (.subAImm x), roundTrip (.andAImm x),
      roundTrip (.xorAImm x), roundTrip (.orAImm x), roundTrip (.soundN x),
      roundTrip (.movR4Imm x), roundTrip (.movAImm x)⟩,
    fun xx => roundTrip (.timerImm xx),
    fun d1 d2 => ⟨roundTrip (.movR1R0Imm d1 d2), roundTrip (.movR3R2Imm d1 d2)⟩,
    fun h l => ?_,
    fun h l => ⟨decode_jmp h l [], decode_call h l []⟩⟩
  refine ⟨?_, ?_, ?_, ?_, ?_, ?_, ?_, ?_, ?_, ?_, ?_, ?_⟩ <;>
    exact decode_cond ⟨by decide, by decide⟩ rfl []

/-! ## What each pair of bytes decodes to -/

/-- First bytes after which the second has a zero high nibble (R105 a). -/
def ConstrainedHead (b1 : Byte) : Prop :=
  (0x40 ≤ b1.toNat ∧ b1.toNat ≤ 0x46) ∨ (0x50 ≤ b1.toNat ∧ b1.toNat ≤ 0x6F)

/-- The forms `F2I` have a constrained second byte (R105). -/
theorem constrainedHead_imm {op : Nibble} (hop : op.toNat ≤ 6) :
    ConstrainedHead (0x4#4 ++ op) := by
  have hnum := toNat_append_nibbles 0x4#4 op
  rw [show (0x4#4 : Nibble).toNat = 4 from rfl] at hnum
  exact .inl ⟨by omega, by omega⟩

/-- The forms `F2P`, both high nibbles, have a constrained second byte (R105). -/
theorem constrainedHead_pair {n : Nibble} (hn : 5 ≤ n.toNat ∧ n.toNat ≤ 6) (d1 : Nibble) :
    ConstrainedHead (n ++ d1) := by
  have hnum := toNat_append_nibbles n d1
  exact .inr ⟨by omega, by omega⟩

/-- A second byte that does not match its first (R105). -/
def BadSecondByte (b1 b2 : Byte) : Prop :=
  (b1 = 0x37#8 ∧ b2 ≠ 0x3E#8) ∨ (ConstrainedHead b1 ∧ 0x10 ≤ b2.toNat)

/-- Only a two-byte instruction can have a bad second byte. -/
theorem BadSecondByte.isTwoByte {b1 b2 : Byte} (h : BadSecondByte b1 b2) :
    isTwoByte b1 = true := by
  simp only [Sys2Proof.isTwoByte, Bool.or_eq_true, Bool.and_eq_true, decide_eq_true_eq, beq_iff_eq]
  rcases h with ⟨rfl, -⟩ | ⟨h4 | h56, -⟩
  · exact .inl (.inl (.inl rfl))
  · exact .inl (.inl (.inr ⟨by omega, by omega⟩))
  · exact .inl (.inr h56)

/-- From 80H on, every second byte is part of an address (R96, R97). -/
theorem not_badSecondByte_of_high {b1 : Byte} (hb : 0x80 ≤ b1.toNat) (b2 : Byte) :
    ¬ BadSecondByte b1 b2 := by
  rintro (⟨rfl, -⟩ | ⟨h4 | h56, -⟩)
  · exact absurd hb (by decide)
  all_goals omega

/-- The decoder's answer on a two-byte form: a rejection exactly on a bad second byte, else the
instruction that the two bytes encode. -/
def RejectedOrEncoded (b1 b2 : Byte) : Prop :=
  (BadSecondByte b1 b2 ∧ decodeTwo b1 b2 = .error .badSecondByte) ∨
    (¬ BadSecondByte b1 b2 ∧ ∃ i, decodeTwo b1 b2 = .ok i ∧ encode i = [b1, b2])

/-- A form with a constrained second byte is rejected exactly when its high nibble is not 0. -/
theorem rejectedOrEncoded_of_constrained {b1 b2 : Byte} {r : Except DecodeError Instr}
    (hcon : ConstrainedHead b1)
    (hdec : decodeTwo b1 b2 = if b2.extractLsb' 4 4 = 0#4 then r else .error .badSecondByte)
    (hr : ∃ i, r = .ok i ∧ encode i = [b1, 0x0#4 ++ b2.extractLsb' 0 4]) :
    RejectedOrEncoded b1 b2 := by
  have hhalt : b1 ≠ 0x37#8 := by
    rintro rfl
    revert hcon
    unfold ConstrainedHead
    decide
  by_cases hzero : b2.extractLsb' 4 4 = 0#4
  · obtain ⟨i, hi, henc⟩ := hr
    rw [if_pos hzero] at hdec
    rw [← hzero, append_nibbles] at henc
    refine .inr ⟨?_, i, hdec.trans hi, henc⟩
    rintro (⟨h, -⟩ | ⟨-, hbig⟩)
    · exact hhalt h
    · exact high_nibble_ne_zero hbig hzero
  · rw [if_neg hzero] at hdec
    rw [high_nibble_eq_zero_iff, not_lt] at hzero
    exact .inl ⟨.inr ⟨hcon, hzero⟩, hdec⟩

/-- Every form of the opcode map is rejected or encoded (R103, R105). -/
theorem rejectedOrEncoded {b1 : Byte} (hb : TwoByteHead b1) (b2 : Byte) :
    RejectedOrEncoded b1 b2 := by
  cases hb with
  | halt =>
    by_cases h : b2 = 0x3E#8
    · subst h
      exact .inr ⟨by simp [BadSecondByte, ConstrainedHead], .halt, rfl, rfl⟩
    · exact .inl ⟨.inl ⟨rfl, h⟩, if_neg h⟩
  | timer =>
    exact .inr ⟨by simp [BadSecondByte, ConstrainedHead], .timerImm b2, rfl, rfl⟩
  | imm op hop =>
    exact rejectedOrEncoded_of_constrained (constrainedHead_imm hop) (decodeTwo_imm hop b2)
      (immForm_encodes hop _)
  | pair10 d1 =>
    exact rejectedOrEncoded_of_constrained (constrainedHead_pair (by decide) d1)
      (decodeTwo_pair10 d1 b2) ⟨_, rfl, rfl⟩
  | pair32 d1 =>
    exact rejectedOrEncoded_of_constrained (constrainedHead_pair (by decide) d1)
      (decodeTwo_pair32 d1 b2) ⟨_, rfl, rfl⟩
  | cond c hc h =>
    obtain ⟨i, hi, henc⟩ := condForm_encodes hc (h ++ b2)
    exact .inr ⟨not_badSecondByte_of_high (toNat_cond_ge hc h) b2, i,
      (decodeTwo_cond hc h b2).trans hi, henc.trans (encodeCond_append c h b2)⟩
  | jmp h =>
    exact .inr ⟨not_badSecondByte_of_high (toNat_jump_ge (by decide) h) b2, _,
      decodeTwo_jmp h b2, encode_jmp h b2⟩
  | call h =>
    exact .inr ⟨not_badSecondByte_of_high (toNat_jump_ge (by decide) h) b2, _,
      decodeTwo_call h b2, encode_call h b2⟩

/-- The opcode map gives each first byte the instruction that the byte encodes (R103). -/
theorem encode_of_lookup {b : Byte} {i : Instr} (h : oneByteMap.lookup b.toNat = some i) :
    encode i = [b] := by
  have hmap : ∀ p ∈ oneByteMap, encode p.2 = [BitVec.ofNat 8 p.1] := by decide
  obtain ⟨before, after, heq, -⟩ := List.lookup_eq_some_iff.1 h
  have hi := hmap (b.toNat, i) (heq ▸ List.mem_append_right before List.mem_cons_self)
  rwa [BitVec.ofNat_toNat, BitVec.setWidth_eq] at hi

/-- 35H is the only hole of the map among the one-byte first bytes (R104). -/
theorem lookup_ne_none :
    ∀ b : Byte, isTwoByte b = false → b.extractLsb' 4 4 ≠ 0x7#4 → b ≠ 0x35#8 →
      oneByteMap.lookup b.toNat ≠ none := by decide

/-- A one-byte first byte other than 35H decodes to the instruction it encodes (R103, R104). -/
theorem decodeOne_encodes {b : Byte} (hlen : isTwoByte b = false) (hb : b ≠ 0x35#8) :
    ∃ i, decodeOne b = .ok i ∧ encode i = [b] := by
  by_cases h7 : b.extractLsb' 4 4 = 0x7#4
  · refine ⟨.movAImm (b.extractLsb' 0 4), if_pos h7, ?_⟩
    have hbytes := append_nibbles b
    rw [h7] at hbytes
    exact congrArg (fun c => [c]) hbytes
  · obtain ⟨i, hi⟩ := Option.ne_none_iff_exists'.1 (lookup_ne_none b hlen h7 hb)
    exact ⟨i, by rw [decodeOne, if_neg h7, hi], encode_of_lookup hi⟩

/-- Settles O2, by the length that the first byte gives: bytes that are not rejected are those that
their instruction encodes. -/
theorem decodedBytesAreTheEncoding : Obligations.DecodedBytesAreTheEncoding := by
  intro bs rest i h
  rcases bs with _ | ⟨b1, tail⟩
  · cases h
  cases hlen : isTwoByte b1 with
  | false =>
    rw [decode_of_oneByte hlen] at h
    by_cases h35 : b1 = 0x35#8
    · subst h35
      cases h
    · obtain ⟨j, hj, henc⟩ := decodeOne_encodes hlen h35
      rw [hj] at h
      cases h
      rw [henc, List.singleton_append]
  | true =>
    rcases tail with _ | ⟨b2, tail⟩
    · rw [decode_truncated hlen] at h
      cases h
    rw [decode_of_twoByte hlen] at h
    rcases rejectedOrEncoded (twoByteHead_of_isTwoByte hlen) b2 with ⟨-, hj⟩ | ⟨-, j, hj, henc⟩
    · rw [hj] at h
      cases h
    · rw [hj] at h
      cases h
      rw [henc]
      rfl

/-- The three answers on two or more bytes, each with the bytes that get it (R103-R105). -/
theorem decode_pair_cases (b1 b2 : Byte) (rest : List Byte) :
    (b1 = 0x35#8 ∧ ¬ BadSecondByte b1 b2 ∧
        decode (b1 :: b2 :: rest) = .error .unassignedOpcode) ∨
      (b1 ≠ 0x35#8 ∧ BadSecondByte b1 b2 ∧ decode (b1 :: b2 :: rest) = .error .badSecondByte) ∨
      (b1 ≠ 0x35#8 ∧ ¬ BadSecondByte b1 b2 ∧ ∃ r, decode (b1 :: b2 :: rest) = .ok r) := by
  cases hlen : isTwoByte b1 with
  | false =>
    have hgood : ¬ BadSecondByte b1 b2 := fun hbad => by
      rw [hbad.isTwoByte] at hlen
      cases hlen
    by_cases h35 : b1 = 0x35#8
    · subst h35
      exact .inl ⟨rfl, hgood, rfl⟩
    · obtain ⟨i, hi, -⟩ := decodeOne_encodes hlen h35
      exact .inr (.inr ⟨h35, hgood, _, by rw [decode_of_oneByte hlen, hi]; rfl⟩)
  | true =>
    have h35 : b1 ≠ 0x35#8 := by
      rintro rfl
      cases hlen
    rw [decode_of_twoByte hlen]
    rcases rejectedOrEncoded (twoByteHead_of_isTwoByte hlen) b2 with ⟨hbad, hj⟩ | ⟨hgood, i, hi, -⟩
    · exact .inr (.inl ⟨h35, hbad, by rw [hj]; rfl⟩)
    · exact .inr (.inr ⟨h35, hgood, _, by rw [hi]; rfl⟩)

/-- Settles O3, from the three answers. -/
theorem bytesThatAreNoInstructionAreRejected :
    Obligations.BytesThatAreNoInstructionAreRejected := by
  intro b1 b2 rest
  change (_ ↔ _) ∧ (_ ↔ BadSecondByte b1 b2) ∧ _
  rcases decode_pair_cases b1 b2 rest with
    ⟨h35, hgood, hdec⟩ | ⟨h35, hbad, hdec⟩ | ⟨h35, hgood, r, hdec⟩
  all_goals rw [hdec]
  · exact ⟨iff_of_true rfl h35, iff_of_false nofun hgood, nofun⟩
  · exact ⟨iff_of_false nofun h35, iff_of_true rfl hbad, nofun⟩
  · exact ⟨iff_of_false nofun h35, iff_of_false nofun hgood, nofun⟩

end Sys2Proof.Proofs
end

section
/-! Arithmetic (40_arithmetic.md): the meaning of each instruction as a result of the adder put into
ACC and CF, the results in numbers, decimal addition and chained subtraction. -/

namespace Sys2Proof.Proofs
open Sys2Proof.Machine

/-! ## What the instructions do -/

@[simp] theorem exec_addAMem (s : State) :
    exec .addAMem s = .next ((s.setAlu (addOut s.acc (s.memRead s.ptr10) false)).advance 1#12) := rfl

@[simp] theorem exec_adcAMem (s : State) :
    exec .adcAMem s = .next ((s.setAlu (addOut s.acc (s.memRead s.ptr10) s.cf)).advance 1#12) := rfl

@[simp] theorem exec_subAMem (s : State) :
    exec .subAMem s = .next ((s.setAlu (subOut s.acc (s.memRead s.ptr10))).advance 1#12) := rfl

@[simp] theorem exec_sbcAMem (s : State) :
    exec .sbcAMem s = .next ((s.setAlu (sbcOut s.acc (s.memRead s.ptr10) s.cf)).advance 1#12) := rfl

@[simp] theorem exec_addAImm (x : Nibble) (s : State) :
    exec (.addAImm x) s = .next ((s.setAlu (addOut s.acc x false)).advance 2#12) := rfl

@[simp] theorem exec_subAImm (x : Nibble) (s : State) :
    exec (.subAImm x) s = .next ((s.setAlu (subOut s.acc x)).advance 2#12) := rfl

@[simp] theorem exec_daa (s : State) :
    exec .daa s = .next ((s.setAlu (daaOut s.acc s.cf)).advance 1#12) := rfl

/-- An instruction that puts a result and its carry into ACC and CF and moves on changes ACC, CF and
the program counter alone. -/
theorem setAlu_advance_changesOnly (s : State) (o : AluOut) (n : CodeAddr) :
    ChangesOnly [.acc, .cf, .pc] s ((s.setAlu o).advance n) :=
  changesOnly_mono (changesOnly_advance (setAlu_changesOnly s o) n) (by decide)

/-- Such an instruction completes with whatever holds of the state it leaves. -/
theorem completesWith_of_setAlu {i : Instr} {s : State} {o : AluOut} {n : CodeAddr}
    {post : State → Prop} (hexec : exec i s = .next ((s.setAlu o).advance n))
    (hpost : post ((s.setAlu o).advance n)) : CompletesWith i s [.acc, .cf, .pc] post :=
  ⟨_, hexec, hpost, setAlu_advance_changesOnly s o n⟩

/-! ## Sums and differences -/

/-- Addition without a carry in (R121, R125). -/
theorem addOut_noCarry_spec (a b : Nibble) :
    (addOut a b false).value.toNat = (a.toNat + b.toNat) % 16 ∧
      (addOut a b false).carry = decide (16 ≤ a.toNat + b.toNat) :=
  ⟨addOut_value a b false, addOut_carry a b false⟩

/-- Settles O19, by the adder's result and carry. -/
theorem additionFromMemory : Obligations.AdditionFromMemory := by
  intro s
  have ⟨hvalue, hcarry⟩ := addOut_noCarry_spec s.acc (s.memRead s.ptr10)
  exact ⟨completesWith_of_setAlu (exec_addAMem s) ⟨hvalue, hcarry, rfl⟩,
    completesWith_of_setAlu (exec_adcAMem s) ⟨addOut_value _ _ _, addOut_carry _ _ _, rfl⟩⟩

/-- Settles O20, by the results of subtraction without and with a borrow in. -/
theorem subtractionFromMemory : Obligations.SubtractionFromMemory := by
  intro s
  have ⟨hsub, hsubCarry⟩ := subOut_spec s.acc (s.memRead s.ptr10)
  have ⟨hsbc, hsbcCarry⟩ := sbcOut_spec s.acc (s.memRead s.ptr10) s.cf
  exact ⟨completesWith_of_setAlu (exec_subAMem s) ⟨hsub, hsubCarry, rfl⟩,
    completesWith_of_setAlu (exec_sbcAMem s) ⟨hsbc, hsbcCarry, rfl⟩⟩

/-- Settles O21, by the same results with the immediate for the operand. -/
theorem immediateArithmetic : Obligations.ImmediateArithmetic := by
  intro s x
  have ⟨hadd, haddCarry⟩ := addOut_noCarry_spec s.acc x
  have ⟨hsub, hsubCarry⟩ := subOut_spec s.acc x
  exact ⟨completesWith_of_setAlu (exec_addAImm x s) ⟨hadd, haddCarry, rfl⟩,
    completesWith_of_setAlu (exec_subAImm x s) ⟨hsub, hsubCarry, rfl⟩⟩

/-! ## Decimal adjustment -/

/-- DAA adjusts a value above 9 or one that came with a carry (R127). -/
theorem daaOut_of_adjust {a : Nibble} {c : Bool} (h : 9 < a.toNat ∨ c = true) :
    (daaOut a c).value.toNat = (a.toNat + 6) % 16 ∧ (daaOut a c).carry = true := by
  have hif : daaOut a c = { value := a + 6#4, carry := true } := if_pos (by simpa using h)
  rw [hif]
  exact ⟨BitVec.toNat_add a 6#4, rfl⟩

/-- DAA leaves a decimal digit without a carry as it is (R127). -/
theorem daaOut_of_not_adjust {a : Nibble} {c : Bool} (h : ¬ (9 < a.toNat ∨ c = true)) :
    daaOut a c = { value := a, carry := c } :=
  if_neg (by simpa using h)

/-- Settles O22, by whether the adjustment is made. -/
theorem decimalAdjust : Obligations.DecimalAdjust := by
  intro s
  refine ⟨⟨rfl, rfl⟩, completesWith_of_setAlu (exec_daa s) ⟨?_, rfl⟩⟩
  rw [advance_acc, setAlu_acc, advance_cf, setAlu_cf]
  split
  next hadjust => exact daaOut_of_adjust hadjust
  next hkeep => rw [daaOut_of_not_adjust hkeep]; exact ⟨rfl, rfl⟩

/-- Adding two decimal digits and a carry and adjusting the result gives the decimal digit and the
decimal carry of the sum: a sum of 10 to 15 is adjusted because it is above 9, one of 16 to 19
because of its carry. -/
theorem daaOut_addOut_digits {a b : Nibble} (ha : a.toNat ≤ 9) (hb : b.toNat ≤ 9) (c : Bool) :
    (daaOut (addOut a b c).value (addOut a b c).carry).value.toNat =
        (a.toNat + b.toNat + c.toNat) % 10 ∧
      (daaOut (addOut a b c).value (addOut a b c).carry).carry =
        decide (10 ≤ a.toNat + b.toNat + c.toNat) := by
  have hc := c.toNat_le
  have hvalue := addOut_value a b c
  have hcarry : (addOut a b c).carry = true ↔ 16 ≤ a.toNat + b.toNat + c.toNat := by
    rw [addOut_carry, decide_eq_true_iff]
  by_cases hten : 10 ≤ a.toNat + b.toNat + c.toNat
  · have hadjust : 9 < (addOut a b c).value.toNat ∨ (addOut a b c).carry = true := by
      rw [hcarry]; omega
    obtain ⟨hdigit, hone⟩ := daaOut_of_adjust hadjust
    exact ⟨by omega, by rw [hone, decide_eq_true hten]⟩
  · have hkeep : ¬ (9 < (addOut a b c).value.toNat ∨ (addOut a b c).carry = true) := by
      rw [hcarry]; omega
    rw [daaOut_of_not_adjust hkeep, addOut_carry]
    exact ⟨by dsimp only; omega, decide_eq_decide.2 (by omega)⟩

/-- Settles O23, from the sum of two digits and the frames of both instructions. -/
theorem decimalAdditionIsCorrect : Obligations.DecimalAdditionIsCorrect := by
  intro s hacc hmem
  have ⟨hdigit, hcarry⟩ := daaOut_addOut_digits hacc hmem s.cf
  exact ⟨_, _, exec_adcAMem s, exec_daa _, hdigit, hcarry,
    changesOnly_trans (setAlu_advance_changesOnly s _ _) (setAlu_advance_changesOnly _ _ _)⟩

/-! ## Subtraction of two digits -/

/-- SUB on the low digits `a0`, `b0` and SBC on the high digits `a1`, `b1` with its carry subtract
the two-digit numbers: the borrow of the low digits is the one the high digits take (R124). -/
theorem sbcOut_subOut_twoDigits (a0 b0 a1 b1 : Nibble) :
    16 * (sbcOut a1 b1 (subOut a0 b0).carry).value.toNat + (subOut a0 b0).value.toNat =
        (256 + (16 * a1.toNat + a0.toNat) - (16 * b1.toNat + b0.toNat)) % 256 ∧
      (sbcOut a1 b1 (subOut a0 b0).carry).carry =
        decide (16 * b1.toNat + b0.toNat ≤ 16 * a1.toNat + a0.toNat) := by
  have ha0 := a0.isLt
  have hb0 := b0.isLt
  have ha1 := a1.isLt
  have hb1 := b1.isLt
  obtain ⟨hlow, hlowCarry⟩ := subOut_spec a0 b0
  obtain ⟨hhigh, hhighCarry⟩ := sbcOut_spec a1 b1 (subOut a0 b0).carry
  have hborrow : (!(subOut a0 b0).carry).toNat = if b0.toNat ≤ a0.toNat then 0 else 1 := by
    rw [hlowCarry]
    split <;> simp_all
  rw [hborrow] at hhigh hhighCarry
  rw [hlow, hhigh, hhighCarry, decide_eq_decide]
  split <;> omega

/-- Settles O24: the two states are joined by the carry alone, which is SUB's. -/
theorem twoDigitSubtractionChains : Obligations.TwoDigitSubtractionChains := by
  intro s t s2 t2 hsub hcf hsbc
  rw [exec_subAMem] at hsub
  rw [exec_sbcAMem] at hsbc
  cases hsub
  cases hsbc
  rw [advance_cf, setAlu_cf] at hcf
  rw [advance_acc, setAlu_acc, advance_cf, setAlu_cf, advance_acc, setAlu_acc, hcf]
  exact sbcOut_subOut_twoDigits _ _ _ _

end Sys2Proof.Proofs
end

section
/-! Logic (41_logic.md): the meaning of each instruction as a value put into ACC or into the cell
R1R0 points to, the frames of these two forms, and the rejected second bytes of the immediate
forms. -/

namespace Sys2Proof.Proofs
open Sys2Proof.Machine

/-! ## What the instructions do -/

@[simp] theorem exec_andAMem (s : State) :
    exec .andAMem s = .next ((s.setAcc (s.acc &&& s.memRead s.ptr10)).advance 1#12) := rfl

@[simp] theorem exec_orAMem (s : State) :
    exec .orAMem s = .next ((s.setAcc (s.acc ||| s.memRead s.ptr10)).advance 1#12) := rfl

@[simp] theorem exec_xorAMem (s : State) :
    exec .xorAMem s = .next ((s.setAcc (s.acc ^^^ s.memRead s.ptr10)).advance 1#12) := rfl

@[simp] theorem exec_andMemA (s : State) :
    exec .andMemA s =
      .next ((s.memWrite s.ptr10 (s.memRead s.ptr10 &&& s.acc)).advance 1#12) := rfl

@[simp] theorem exec_orMemA (s : State) :
    exec .orMemA s =
      .next ((s.memWrite s.ptr10 (s.memRead s.ptr10 ||| s.acc)).advance 1#12) := rfl

@[simp] theorem exec_xorMemA (s : State) :
    exec .xorMemA s =
      .next ((s.memWrite s.ptr10 (s.memRead s.ptr10 ^^^ s.acc)).advance 1#12) := rfl

@[simp] theorem exec_andAImm (x : Nibble) (s : State) :
    exec (.andAImm x) s = .next ((s.setAcc (s.acc &&& x)).advance 2#12) := rfl

@[simp] theorem exec_orAImm (x : Nibble) (s : State) :
    exec (.orAImm x) s = .next ((s.setAcc (s.acc ||| x)).advance 2#12) := rfl

@[simp] theorem exec_xorAImm (x : Nibble) (s : State) :
    exec (.xorAImm x) s = .next ((s.setAcc (s.acc ^^^ x)).advance 2#12) := rfl

/-- An operation that changes one piece of state, then the move to the next instruction: the piece
comes first in the list, as the obligations have it. -/
theorem changesOnly_advance_of_single {f : Field} {s t : State} (h : ChangesOnly [f] s t)
    (n : CodeAddr) : ChangesOnly [f, .pc] s (t.advance n) :=
  changesOnly_mono (changesOnly_advance h n) (List.Perm.swap f .pc []).subset

/-- An instruction that puts a value into ACC and moves on completes with whatever holds of the state
it leaves, and changes no flag and no memory. -/
theorem completesWith_of_setAcc {i : Instr} {s : State} {v : Nibble} {n : CodeAddr}
    {post : State → Prop} (hexec : exec i s = .next ((s.setAcc v).advance n))
    (hpost : post ((s.setAcc v).advance n)) : CompletesWith i s [.acc, .pc] post :=
  ⟨_, hexec, hpost, changesOnly_advance_of_single (setAcc_changesOnly s v) n⟩

/-- An instruction that stores a value and moves on completes with whatever holds of the state it
leaves, and changes no other cell than the one its address names. -/
theorem completesWith_of_memWrite {i : Instr} {s : State} {a : Byte} {v : Nibble} {n : CodeAddr}
    {post : State → Prop} (hexec : exec i s = .next ((s.memWrite a v).advance n))
    (hpost : post ((s.memWrite a v).advance n)) :
    CompletesWith i s [.ramCell (s.cell a), .pc] post :=
  ⟨_, hexec, hpost, changesOnly_advance_of_single (memWrite_changesOnly s a v) n⟩

/-- After such a store the cell reads as the value stored, and the program counter has moved on. -/
theorem memWrite_advance_result (s : State) (a : Byte) (v : Nibble) (n : CodeAddr) :
    ((s.memWrite a v).advance n).ramCell (s.cell a) = v ∧
      ((s.memWrite a v).advance n).pc = s.pc + n :=
  ⟨memWrite_ramCell_same s a v, rfl⟩

/-! ## Logic with data memory -/

/-- Settles O25: each of the three puts its result into ACC. -/
theorem logicOnTheAccumulator : Obligations.LogicOnTheAccumulator := by
  intro s
  exact ⟨⟨rfl, rfl⟩, ⟨rfl, rfl⟩, ⟨rfl, rfl⟩,
    completesWith_of_setAcc (exec_andAMem s) ⟨rfl, rfl⟩,
    completesWith_of_setAcc (exec_orAMem s) ⟨rfl, rfl⟩,
    completesWith_of_setAcc (exec_xorAMem s) ⟨rfl, rfl⟩⟩

/-- Settles O26: each of the three stores its result where it read its operand. -/
theorem logicOnDataMemory : Obligations.LogicOnDataMemory := by
  intro s
  exact ⟨⟨rfl, rfl⟩, ⟨rfl, rfl⟩, ⟨rfl, rfl⟩,
    completesWith_of_memWrite (exec_andMemA s) (memWrite_advance_result s _ _ _),
    completesWith_of_memWrite (exec_orMemA s) (memWrite_advance_result s _ _ _),
    completesWith_of_memWrite (exec_xorMemA s) (memWrite_advance_result s _ _ _)⟩

/-! ## Logic with immediates -/

/-- A form `F2I` whose second byte has a non-zero high nibble is no instruction (R105, D6). -/
theorem decode_imm_badSecondByte {op : Nibble} (hop : op.toNat ≤ 6) {b2 : Byte}
    (hb2 : 0x10 ≤ b2.toNat) (rest : List Byte) :
    decode ((0x4#4 ++ op) :: b2 :: rest) = .error .badSecondByte := by
  obtain ⟨-, hbad, -⟩ := bytesThatAreNoInstructionAreRejected (0x4#4 ++ op) b2 rest
  exact hbad.2 (.inr ⟨constrainedHead_imm hop, hb2⟩)

/-- Settles O27: each of the three puts its result into ACC; their opcodes are 2, 4 and 3 of the
forms `F2I`. -/
theorem logicWithImmediates : Obligations.LogicWithImmediates := by
  intro s x
  refine ⟨⟨rfl, rfl⟩, ⟨rfl, rfl⟩, ⟨rfl, rfl⟩, fun b2 hb2 => ?_,
    completesWith_of_setAcc (exec_andAImm x s) ⟨rfl, rfl⟩,
    completesWith_of_setAcc (exec_orAImm x s) ⟨rfl, rfl⟩,
    completesWith_of_setAcc (exec_xorAImm x s) ⟨rfl, rfl⟩⟩
  exact ⟨decode_imm_badSecondByte (op := 2#4) (by decide) hb2 [],
    decode_imm_badSecondByte (op := 4#4) (by decide) hb2 [],
    decode_imm_badSecondByte (op := 3#4) (by decide) hb2 []⟩

end Sys2Proof.Proofs
end

section
/-! Increment and decrement (42_incdec.md): the meaning of each instruction as one count of the place
it names, a count in numbers, and what each of the three kinds of place holds after it. -/

namespace Sys2Proof.Proofs
open Sys2Proof.Machine

/-! ## What the instructions do -/

@[simp] theorem exec_incA (s : State) :
    exec .incA s = .next ((s.setAcc (s.acc + 1#4)).advance 1#12) := rfl

@[simp] theorem exec_decA (s : State) :
    exec .decA s = .next ((s.setAcc (s.acc - 1#4)).advance 1#12) := rfl

@[simp] theorem exec_incR0 (s : State) :
    exec .incR0 s = .next ((s.setReg .r0 (s.reg .r0 + 1#4)).advance 1#12) := rfl

@[simp] theorem exec_incR1 (s : State) :
    exec .incR1 s = .next ((s.setReg .r1 (s.reg .r1 + 1#4)).advance 1#12) := rfl

@[simp] theorem exec_incR2 (s : State) :
    exec .incR2 s = .next ((s.setReg .r2 (s.reg .r2 + 1#4)).advance 1#12) := rfl

@[simp] theorem exec_incR3 (s : State) :
    exec .incR3 s = .next ((s.setReg .r3 (s.reg .r3 + 1#4)).advance 1#12) := rfl

@[simp] theorem exec_incR4 (s : State) :
    exec .incR4 s = .next ((s.setReg .r4 (s.reg .r4 + 1#4)).advance 1#12) := rfl

@[simp] theorem exec_decR0 (s : State) :
    exec .decR0 s = .next ((s.setReg .r0 (s.reg .r0 - 1#4)).advance 1#12) := rfl

@[simp] theorem exec_decR1 (s : State) :
    exec .decR1 s = .next ((s.setReg .r1 (s.reg .r1 - 1#4)).advance 1#12) := rfl

@[simp] theorem exec_decR2 (s : State) :
    exec .decR2 s = .next ((s.setReg .r2 (s.reg .r2 - 1#4)).advance 1#12) := rfl

@[simp] theorem exec_decR3 (s : State) :
    exec .decR3 s = .next ((s.setReg .r3 (s.reg .r3 - 1#4)).advance 1#12) := rfl

@[simp] theorem exec_decR4 (s : State) :
    exec .decR4 s = .next ((s.setReg .r4 (s.reg .r4 - 1#4)).advance 1#12) := rfl

@[simp] theorem exec_incMem10 (s : State) :
    exec .incMem10 s = .next ((s.memWrite s.ptr10 (s.memRead s.ptr10 + 1#4)).advance 1#12) := rfl

@[simp] theorem exec_incMem32 (s : State) :
    exec .incMem32 s = .next ((s.memWrite s.ptr32 (s.memRead s.ptr32 + 1#4)).advance 1#12) := rfl

@[simp] theorem exec_decMem10 (s : State) :
    exec .decMem10 s = .next ((s.memWrite s.ptr10 (s.memRead s.ptr10 - 1#4)).advance 1#12) := rfl

@[simp] theorem exec_decMem32 (s : State) :
    exec .decMem32 s = .next ((s.memWrite s.ptr32 (s.memRead s.ptr32 - 1#4)).advance 1#12) := rfl

/-! ## A count in numbers -/

/-- Counting up, FH goes to 0 (R145). -/
theorem nibble_add_one_toNat (v : Nibble) : (v + 1#4).toNat = (v.toNat + 1) % 16 :=
  BitVec.toNat_add v 1#4

/-- Counting down, 0 goes to FH (R145). -/
theorem nibble_sub_one_toNat (v : Nibble) : (v - 1#4).toNat = (v.toNat + 15) % 16 := by
  rw [Nat.add_comm]
  exact BitVec.toNat_sub v 1#4

/-! ## The place counted, in numbers -/

/-- An instruction that puts a value into one register and moves on completes with whatever holds of
the state it leaves, and changes no flag and not the other register of a pair. -/
theorem completesWith_of_setReg {i : Instr} {s : State} {r : Reg} {v : Nibble} {n : CodeAddr}
    {post : State → Prop} (hexec : exec i s = .next ((s.setReg r v).advance n))
    (hpost : post ((s.setReg r v).advance n)) : CompletesWith i s [.reg r, .pc] post :=
  ⟨_, hexec, hpost, changesOnly_advance_of_single (setReg_changesOnly s r v) n⟩

/-- After such a write the register holds the value, and the program counter has moved on. -/
theorem setReg_advance_result (s : State) (r : Reg) (v : Nibble) (n : CodeAddr) :
    ((s.setReg r v).advance n).reg r = v ∧ ((s.setReg r v).advance n).pc = s.pc + n :=
  ⟨(setReg_reg s r r v).trans (if_pos rfl), rfl⟩

/-- `setReg_advance_result` with the value written given as a number. -/
theorem completesWith_of_setReg_toNat {i : Instr} {s : State} {r : Reg} {v : Nibble} {k : Nat}
    (hexec : exec i s = .next ((s.setReg r v).advance 1#12)) (hv : v.toNat = k) :
    CompletesWith i s [.reg r, .pc] (fun t => (t.reg r).toNat = k ∧ t.pc = s.pc + 1#12) := by
  obtain ⟨hreg, hpc⟩ := setReg_advance_result s r v 1#12
  exact completesWith_of_setReg hexec ⟨by rw [hreg, hv], hpc⟩

/-- `memWrite_advance_result` with the value stored given as a number. -/
theorem completesWith_of_memWrite_toNat {i : Instr} {s : State} {a : Byte} {v : Nibble} {k : Nat}
    (hexec : exec i s = .next ((s.memWrite a v).advance 1#12)) (hv : v.toNat = k) :
    CompletesWith i s [.ramCell (s.cell a), .pc] (fun t =>
      (t.ramCell (s.cell a)).toNat = k ∧ t.pc = s.pc + 1#12) := by
  obtain ⟨hcell, hpc⟩ := memWrite_advance_result s a v 1#12
  exact completesWith_of_memWrite hexec ⟨by rw [hcell, hv], hpc⟩

/-! ## Counting -/

/-- Settles O28: each instruction puts its count into the register it names. -/
theorem incrementAndDecrementOfRegisters : Obligations.IncrementAndDecrementOfRegisters := by
  intro s
  have up (r : Reg) := nibble_add_one_toNat (s.reg r)
  have down (r : Reg) := nibble_sub_one_toNat (s.reg r)
  exact ⟨⟨rfl, rfl⟩, ⟨rfl, rfl⟩,
    completesWith_of_setAcc (exec_incA s) ⟨nibble_add_one_toNat s.acc, rfl⟩,
    completesWith_of_setAcc (exec_decA s) ⟨nibble_sub_one_toNat s.acc, rfl⟩,
    ⟨rfl, rfl⟩, completesWith_of_setReg_toNat (exec_incR0 s) (up .r0),
    ⟨rfl, rfl⟩, completesWith_of_setReg_toNat (exec_incR1 s) (up .r1),
    ⟨rfl, rfl⟩, completesWith_of_setReg_toNat (exec_incR2 s) (up .r2),
    ⟨rfl, rfl⟩, completesWith_of_setReg_toNat (exec_incR3 s) (up .r3),
    ⟨rfl, rfl⟩, completesWith_of_setReg_toNat (exec_incR4 s) (up .r4),
    ⟨rfl, rfl⟩, completesWith_of_setReg_toNat (exec_decR0 s) (down .r0),
    ⟨rfl, rfl⟩, completesWith_of_setReg_toNat (exec_decR1 s) (down .r1),
    ⟨rfl, rfl⟩, completesWith_of_setReg_toNat (exec_decR2 s) (down .r2),
    ⟨rfl, rfl⟩, completesWith_of_setReg_toNat (exec_decR3 s) (down .r3),
    ⟨rfl, rfl⟩, completesWith_of_setReg_toNat (exec_decR4 s) (down .r4)⟩

/-- Settles O29: each instruction stores its count in the cell it read. -/
theorem incrementAndDecrementOfDataMemory : Obligations.IncrementAndDecrementOfDataMemory := by
  intro s
  have up (a : Byte) := nibble_add_one_toNat (s.memRead a)
  have down (a : Byte) := nibble_sub_one_toNat (s.memRead a)
  exact ⟨⟨rfl, rfl⟩, completesWith_of_memWrite_toNat (exec_incMem10 s) (up s.ptr10),
    ⟨rfl, rfl⟩, completesWith_of_memWrite_toNat (exec_incMem32 s) (up s.ptr32),
    ⟨rfl, rfl⟩, completesWith_of_memWrite_toNat (exec_decMem10 s) (down s.ptr10),
    ⟨rfl, rfl⟩, completesWith_of_memWrite_toNat (exec_decMem32 s) (down s.ptr32)⟩

end Sys2Proof.Proofs
end

section
/-! Data moves (43_datamove.md): the meaning of each instruction as a value put into ACC, a register,
a register pair or a cell, the nibbles of a pair immediate under either order, and the rejected
second bytes of the pair forms. -/

namespace Sys2Proof.Proofs
open Sys2Proof.Machine

/-! ## What the instructions do -/

@[simp] theorem exec_movAR0 (s : State) :
    exec .movAR0 s = .next ((s.setAcc (s.reg .r0)).advance 1#12) := rfl

@[simp] theorem exec_movAR1 (s : State) :
    exec .movAR1 s = .next ((s.setAcc (s.reg .r1)).advance 1#12) := rfl

@[simp] theorem exec_movAR2 (s : State) :
    exec .movAR2 s = .next ((s.setAcc (s.reg .r2)).advance 1#12) := rfl

@[simp] theorem exec_movAR3 (s : State) :
    exec .movAR3 s = .next ((s.setAcc (s.reg .r3)).advance 1#12) := rfl

@[simp] theorem exec_movAR4 (s : State) :
    exec .movAR4 s = .next ((s.setAcc (s.reg .r4)).advance 1#12) := rfl

@[simp] theorem exec_movR0A (s : State) :
    exec .movR0A s = .next ((s.setReg .r0 s.acc).advance 1#12) := rfl

@[simp] theorem exec_movR1A (s : State) :
    exec .movR1A s = .next ((s.setReg .r1 s.acc).advance 1#12) := rfl

@[simp] theorem exec_movR2A (s : State) :
    exec .movR2A s = .next ((s.setReg .r2 s.acc).advance 1#12) := rfl

@[simp] theorem exec_movR3A (s : State) :
    exec .movR3A s = .next ((s.setReg .r3 s.acc).advance 1#12) := rfl

@[simp] theorem exec_movR4A (s : State) :
    exec .movR4A s = .next ((s.setReg .r4 s.acc).advance 1#12) := rfl

@[simp] theorem exec_movAMem10 (s : State) :
    exec .movAMem10 s = .next ((s.setAcc (s.memRead s.ptr10)).advance 1#12) := rfl

@[simp] theorem exec_movAMem32 (s : State) :
    exec .movAMem32 s = .next ((s.setAcc (s.memRead s.ptr32)).advance 1#12) := rfl

@[simp] theorem exec_movMem10A (s : State) :
    exec .movMem10A s = .next ((s.memWrite s.ptr10 s.acc).advance 1#12) := rfl

@[simp] theorem exec_movMem32A (s : State) :
    exec .movMem32A s = .next ((s.memWrite s.ptr32 s.acc).advance 1#12) := rfl

@[simp] theorem exec_movAImm (x : Nibble) (s : State) :
    exec (.movAImm x) s = .next ((s.setAcc x).advance 1#12) := rfl

@[simp] theorem exec_movR1R0Imm (d1 d2 : Nibble) (s : State) :
    exec (.movR1R0Imm d1 d2) s =
      .next ((s.setPair .r1 .r0 (pairValue s.cfg.pairImmFirst d1 d2)).advance 2#12) := rfl

@[simp] theorem exec_movR3R2Imm (d1 d2 : Nibble) (s : State) :
    exec (.movR3R2Imm d1 d2) s =
      .next ((s.setPair .r3 .r2 (pairValue s.cfg.pairImmFirst d1 d2)).advance 2#12) := rfl

@[simp] theorem exec_movR4Imm (x : Nibble) (s : State) :
    exec (.movR4Imm x) s = .next ((s.setReg .r4 x).advance 2#12) := rfl

/-! ## The pointers and the cells they name -/

/-- The pointer R1R0 is read from the registers themselves, so a write shows in it at once (R22). -/
theorem ptr10_eq_reg (s : State) : s.ptr10 = s.reg .r1 ++ s.reg .r0 := rfl

/-- The pointer R3R2, likewise (R22). -/
theorem ptr32_eq_reg (s : State) : s.ptr32 = s.reg .r3 ++ s.reg .r2 := rfl

/-- The cell of a data address by area: the display area, BANK1 and BANK0 begin at the cells 256, 128
and 0 (R67). -/
theorem cell_eq_by_area (s : State) (a : Byte) :
    s.cell a =
      if 128 ≤ a.toNat then 256 + (a.toNat - 128)
      else if s.portc.getLsbD 0 then 128 + a.toNat else a.toNat := by
  rw [cell_eq]
  split
  next hdisp => omega
  next => rw [Nat.add_comm]

/-! ## Moves of one nibble -/

/-- Settles O30: each move puts its source into ACC or into the register it names. -/
theorem registerMoves : Obligations.RegisterMoves := by
  intro s
  have written (r : Reg) := setReg_advance_result s r s.acc 1#12
  exact ⟨⟨rfl, rfl⟩, completesWith_of_setAcc (exec_movAR0 s) ⟨rfl, rfl⟩,
    ⟨rfl, rfl⟩, completesWith_of_setAcc (exec_movAR1 s) ⟨rfl, rfl⟩,
    ⟨rfl, rfl⟩, completesWith_of_setAcc (exec_movAR2 s) ⟨rfl, rfl⟩,
    ⟨rfl, rfl⟩, completesWith_of_setAcc (exec_movAR3 s) ⟨rfl, rfl⟩,
    ⟨rfl, rfl⟩, completesWith_of_setAcc (exec_movAR4 s) ⟨rfl, rfl⟩,
    ⟨rfl, rfl⟩, completesWith_of_setReg (exec_movR0A s) (written .r0),
    ⟨rfl, rfl⟩, completesWith_of_setReg (exec_movR1A s) (written .r1),
    ⟨rfl, rfl⟩, completesWith_of_setReg (exec_movR2A s) (written .r2),
    ⟨rfl, rfl⟩, completesWith_of_setReg (exec_movR3A s) (written .r3),
    ⟨rfl, rfl⟩, completesWith_of_setReg (exec_movR4A s) (written .r4),
    fun r v => ptr10_eq_reg (s.setReg r v)⟩

/-- Settles O31: each load puts the cell of its pointer into ACC. -/
theorem loadsFromDataMemory : Obligations.LoadsFromDataMemory := by
  intro s
  exact ⟨⟨rfl, rfl⟩, ⟨rfl, rfl⟩,
    completesWith_of_setAcc (exec_movAMem10 s) ⟨rfl, rfl⟩,
    completesWith_of_setAcc (exec_movAMem32 s) ⟨rfl, rfl⟩,
    cell_eq_by_area s⟩

/-- Settles O32: each store puts ACC into the cell of its pointer. -/
theorem storesToDataMemory : Obligations.StoresToDataMemory := by
  intro s
  exact ⟨⟨rfl, rfl⟩, ⟨rfl, rfl⟩,
    completesWith_of_memWrite (exec_movMem10A s) (memWrite_advance_result s _ _ _),
    completesWith_of_memWrite (exec_movMem32A s) (memWrite_advance_result s _ _ _)⟩

/-- Settles O34: `MOV A,XH` has no second byte, and `MOV R4,XH` has opcode 6 of the forms `F2I`. -/
theorem immediateMoves : Obligations.ImmediateMoves := by
  intro s x
  exact ⟨⟨rfl, rfl⟩, ⟨rfl, rfl⟩,
    fun _ hb2 => decode_imm_badSecondByte (op := 6#4) (by decide) hb2 [],
    completesWith_of_setAcc (exec_movAImm x s) ⟨rfl, rfl⟩,
    completesWith_of_setReg (exec_movR4Imm x s) (setReg_advance_result s .r4 x 2#12)⟩

/-! ## Moves into a register pair -/

/-- A form `F2P` whose second byte has a non-zero high nibble is no instruction (R105, D6). -/
theorem decode_pair_badSecondByte {n : Nibble} (hn : 5 ≤ n.toNat ∧ n.toNat ≤ 6) (d1 : Nibble)
    {b2 : Byte} (hb2 : 0x10 ≤ b2.toNat) (rest : List Byte) :
    decode ((n ++ d1) :: b2 :: rest) = .error .badSecondByte := by
  obtain ⟨-, hbad, -⟩ := bytesThatAreNoInstructionAreRejected (n ++ d1) b2 rest
  exact hbad.2 (.inr ⟨constrainedHead_pair hn d1, hb2⟩)

/-- The core puts together what the assembler took apart, under the same order (R95, R111). -/
theorem pairValue_of_pairNibbles {o : NibbleOrder} {xx : Byte} {d1 d2 : Nibble}
    (h : pairNibbles o xx = (d1, d2)) : pairValue o d1 d2 = xx := by
  cases o <;> cases h <;> exact append_nibbles xx

/-- An instruction that puts a byte into a register pair and moves on completes with whatever holds
of the state it leaves, and changes no register outside the pair. -/
theorem completesWith_of_setPair {i : Instr} {s : State} {hi lo : Reg} {v : Byte} {n : CodeAddr}
    {post : State → Prop} (hexec : exec i s = .next ((s.setPair hi lo v).advance n))
    (hpost : post ((s.setPair hi lo v).advance n)) :
    CompletesWith i s [.reg hi, .reg lo, .pc] post :=
  ⟨_, hexec, hpost, changesOnly_mono (changesOnly_advance (setPair_changesOnly s hi lo v) n)
    (List.reverse_perm [Field.reg hi, .reg lo, .pc]).subset⟩

/-- After such a write the odd register holds the byte's high nibble and the even one its low
nibble. -/
theorem setPair_advance_nibbles {hi lo : Reg} (hne : hi ≠ lo) (s : State) (v : Byte)
    (n : CodeAddr) :
    ((s.setPair hi lo v).advance n).reg hi = v.extractLsb' 4 4 ∧
      ((s.setPair hi lo v).advance n).reg lo = v.extractLsb' 0 4 := by
  rw [advance_reg, advance_reg, setPair_reg, setPair_reg, if_neg hne, if_pos rfl, if_pos rfl]
  exact ⟨rfl, rfl⟩

/-- What a pair holds after a pair immediate `d1`, `d2`, by the order of the nibbles (R95) and by
the byte `xx` that they were assembled from (R168, R169). -/
theorem setPair_advance_pairValue {hi lo : Reg} (hne : hi ≠ lo) (s : State) (o : NibbleOrder)
    (d1 d2 : Nibble) (n : CodeAddr) {t : State}
    (ht : t = (s.setPair hi lo (pairValue o d1 d2)).advance n) :
    (o = .low → t.reg lo = d1 ∧ t.reg hi = d2) ∧
      (o = .high → t.reg hi = d1 ∧ t.reg lo = d2) ∧
      ∀ xx : Byte, pairNibbles o xx = (d1, d2) →
        t.reg hi = xx.extractLsb' 4 4 ∧ t.reg lo = xx.extractLsb' 0 4 ∧
          t.reg hi ++ t.reg lo = xx := by
  obtain ⟨hhi, hlo⟩ := setPair_advance_nibbles hne s (pairValue o d1 d2) n
  rw [ht, hhi, hlo]
  refine ⟨?_, ?_, fun xx hxx => ?_⟩
  · rintro rfl
    exact ⟨append_low d2 d1, append_high d2 d1⟩
  · rintro rfl
    exact ⟨append_high d1 d2, append_low d1 d2⟩
  · rw [pairValue_of_pairNibbles hxx]
    exact ⟨rfl, rfl, append_nibbles xx⟩

/-- Settles O35, by what a pair holds after a pair immediate; the two pointers are the two pairs. -/
theorem pairImmediateMoves : Obligations.PairImmediateMoves := by
  intro s d1 d2
  refine ⟨⟨rfl, rfl⟩, ⟨rfl, rfl⟩, fun b2 hb2 => ?_,
    completesWith_of_setPair (exec_movR1R0Imm d1 d2 s) ⟨rfl, ?_⟩,
    completesWith_of_setPair (exec_movR3R2Imm d1 d2 s) ⟨rfl, ?_⟩⟩
  · exact ⟨decode_pair_badSecondByte (n := 5#4) (by decide) d1 hb2 [],
      decode_pair_badSecondByte (n := 6#4) (by decide) d1 hb2 []⟩
  · rw [ptr10_eq_reg]
    exact setPair_advance_pairValue (by decide) s _ d1 d2 _ rfl
  · rw [ptr32_eq_reg]
    exact setPair_advance_pairValue (by decide) s _ d1 d2 _ rfl

end Sys2Proof.Proofs
end

section
/-! Rotates (44_rotate.md): the meaning of each instruction as a result put into ACC and CF, and the
two plain rotates as the rotates through the carry, fed with the bit that leaves. -/

namespace Sys2Proof.Proofs
open Sys2Proof.Machine

/-! ## What the instructions do -/

@[simp] theorem exec_rlA (s : State) :
    exec .rlA s = .next ((s.setAlu (rlOut s.acc)).advance 1#12) := rfl

@[simp] theorem exec_rlcA (s : State) :
    exec .rlcA s = .next ((s.setAlu (rlcOut s.acc s.cf)).advance 1#12) := rfl

@[simp] theorem exec_rrA (s : State) :
    exec .rrA s = .next ((s.setAlu (rrOut s.acc)).advance 1#12) := rfl

@[simp] theorem exec_rrcA (s : State) :
    exec .rrcA s = .next ((s.setAlu (rrcOut s.acc s.cf)).advance 1#12) := rfl

/-! ## The bits moved -/

/-- `RL A` enters the bit that leaves at the top (R176). -/
theorem rlOut_bits (a : Nibble) :
    (∀ n, n < 3 → (rlOut a).value.getLsbD (n + 1) = a.getLsbD n) ∧
      (rlOut a).value.getLsbD 0 = a.getLsbD 3 := by
  rw [rlOut_eq_rlcOut]
  exact rlcOut_bits a (a.getLsbD 3)

/-- `RR A` enters the bit that leaves at the bottom (R178). -/
theorem rrOut_bits (a : Nibble) :
    (∀ n, n < 3 → (rrOut a).value.getLsbD n = a.getLsbD (n + 1)) ∧
      (rrOut a).value.getLsbD 3 = a.getLsbD 0 := by
  rw [rrOut_eq_rrcOut]
  exact rrcOut_bits a (a.getLsbD 0)

/-- Settles O36: each rotate puts the bits it moved into ACC and the bit that left into CF. -/
theorem rotatesMoveEveryBit : Obligations.RotatesMoveEveryBit := by
  intro s
  have ⟨rlMoved, rlEntered⟩ := rlOut_bits s.acc
  have ⟨rlcMoved, rlcEntered⟩ := rlcOut_bits s.acc s.cf
  have ⟨rrMoved, rrEntered⟩ := rrOut_bits s.acc
  have ⟨rrcMoved, rrcEntered⟩ := rrcOut_bits s.acc s.cf
  exact ⟨⟨rfl, rfl⟩, ⟨rfl, rfl⟩, ⟨rfl, rfl⟩, ⟨rfl, rfl⟩,
    completesWith_of_setAlu (exec_rlA s) ⟨rlMoved, rlEntered, rfl, rfl⟩,
    completesWith_of_setAlu (exec_rlcA s) ⟨rlcMoved, rlcEntered, rfl, rfl⟩,
    completesWith_of_setAlu (exec_rrA s) ⟨rrMoved, rrEntered, rfl, rfl⟩,
    completesWith_of_setAlu (exec_rrcA s) ⟨rrcMoved, rrcEntered, rfl, rfl⟩⟩

end Sys2Proof.Proofs
end

section
/-! Input and output (45_io.md): the mask options that no rule reads, through every part of a step;
the levels the input ports read; what the output ports latch and drive. -/

namespace Sys2Proof.Proofs
open Sys2Proof.Machine

/-! ## What the instructions do -/

@[simp] theorem exec_inAPS (s : State) :
    exec .inAPS s = .next ((s.setAcc s.readPS).drawn.advance 1#12) := rfl

@[simp] theorem exec_inAPM (s : State) :
    exec .inAPM s =
      .next ((s.setAcc (Config.freePmBit3 s.draws ++ s.readPM)).drawn.advance 1#12) := rfl

@[simp] theorem exec_outPAA (s : State) :
    exec .outPAA s = .next ((s.outPA s.acc).advance 1#12) := rfl

@[simp] theorem exec_outPCA (s : State) :
    exec .outPCA s = .next ((s.outPC s.acc).advance 1#12) := rfl

/-! ## The operations of a step under a change of the inert options

An operation without a branch writes its own pieces and reads, of the options, at most those that
`withInertOptions` keeps, so that the two orders agree by computation. What remains is each operation
with a branch, whose test is the same on both sides. -/

theorem withInertOptions_ite (c : Prop) [Decidable c] (t u : State) (o : Options) :
    (if c then t else u).withInertOptions o =
      if c then t.withInertOptions o else u.withInertOptions o :=
  apply_ite (State.withInertOptions · o) c t u

theorem timerTick_withInertOptions (s : State) (o : Options) :
    (s.withInertOptions o).timerTick = s.timerTick.withInertOptions o := by
  unfold State.timerTick
  rw [withInertOptions_ite, withInertOptions_ite]
  rfl

theorem sampled_withInertOptions (s : State) (o : Options) :
    (s.withInertOptions o).sampled = s.sampled.withInertOptions o := by
  unfold State.sampled
  rw [withInertOptions_ite]
  rfl

theorem condBranch_withInertOptions (s : State) (o : Options) (b : Bool) (a : HalfAddr) :
    (s.withInertOptions o).condBranch b a = (s.condBranch b a).withInertOptions o := by
  unfold State.condBranch
  rw [withInertOptions_ite]
  rfl

theorem takeInterrupt_withInertOptions (s : State) (o : Options) :
    (s.withInertOptions o).takeInterrupt = s.takeInterrupt.withInertOptions o := by
  unfold State.takeInterrupt
  rw [withInertOptions_ite]
  rfl

theorem execCall_withInertOptions (s : State) (o : Options) (a : CodeAddr) :
    execCall a (s.withInertOptions o) = mapNext (·.withInertOptions o) (execCall a s) := by
  have hsub : (s.withInertOptions o).sub = s.sub := rfl
  unfold execCall
  rw [hsub]
  cases s.sub <;> rfl

/-- No event of an agent depends on an inert option: the timer's clock, the pull-highs, the wake
enables, the writer of PB and the LCD level are other options. -/
theorem applyEvent_withInertOptions (s : State) (o : Options) (e : Event) :
    (s.withInertOptions o).applyEvent e = (s.applyEvent e).withInertOptions o := by
  have tick := timerTick_withInertOptions s o
  cases e with
  | rtc | pins | resLow => rfl
  | soundEnd | writePB =>
    dsimp only [State.applyEvent]
    rw [withInertOptions_ite]
    rfl
  | internalTick =>
    cases hsrc : s.cfg.timerSrc with
    | external =>
      rw [(applyEvent_external s hsrc).1]
      exact (applyEvent_external (s.withInertOptions o) hsrc).1
    | internal n =>
      rw [(applyEvent_internal s hsrc).1, withInertOptions_ite, ← tick]
      exact (applyEvent_internal (s.withInertOptions o) hsrc).1
  | tmclkRise =>
    cases hsrc : s.cfg.timerSrc with
    | external =>
      rw [(applyEvent_external s hsrc).2, withInertOptions_ite, ← tick]
      exact (applyEvent_external (s.withInertOptions o) hsrc).2
    | internal n =>
      rw [(applyEvent_internal s hsrc).2]
      exact (applyEvent_internal (s.withInertOptions o) hsrc).2

theorem applyEvents_withInertOptions (o : Options) (es : List Event) : ∀ s : State,
    (s.withInertOptions o).applyEvents es = (s.applyEvents es).withInertOptions o := by
  induction es with
  | nil => exact fun _ => rfl
  | cons e es ih =>
    intro s
    rw [applyEvents_cons, applyEvents_cons, applyEvent_withInertOptions]
    exact ih (s.applyEvent e).wake

/-- Nothing that happens at an instruction boundary depends on an inert option. -/
theorem boundary_withInertOptions (s : State) (o : Options) :
    (s.withInertOptions o).boundary = s.boundary.withInertOptions o := by
  match hs : s.schedule with
  | [] =>
    rw [boundary_of_no_event s hs]
    exact boundary_of_no_event (s.withInertOptions o) hs
  | es :: rest =>
    rw [boundary_of_batch s hs, ← applyEvents_withInertOptions]
    exact boundary_of_batch (s.withInertOptions o) hs

/-- No instruction depends on an inert option: by the operations its meaning is built from. -/
theorem exec_withInertOptions (i : Instr) (s : State) (o : Options) :
    exec i (s.withInertOptions o) = mapNext (·.withInertOptions o) (exec i s) := by
  cases i with
  | call a => exact execCall_withInertOptions s o a
  | jc | jnc | ja0 | ja1 | ja2 | ja3 | jzA | jnzA | jnzR0 | jnzR1 | jnzR4 =>
    exact congrArg Host.Outcome.next (condBranch_withInertOptions s o _ _)
  | jtmr a =>
    exact congrArg (fun t => Host.Outcome.next (t.setTf false))
      (condBranch_withInertOptions s o s.tf a)
  | movATmrl | movATmrh =>
    exact congrArg (fun t => Host.Outcome.next (t.advance 1#12))
      (sampled_withInertOptions (s.setAcc _) o)
  | _ => rfl

/-- Settles O57: the boundary comes out the same but for the inert options, the core then takes the
same of the three ways a step can go, and each of them leaves the inert options to be changed. -/
theorem inertOptionsDoNotMatter : Obligations.InertOptionsDoNotMatter := by
  intro s o
  have hhalted : (s.boundary.withInertOptions o).halted = s.boundary.halted := rfl
  have haccepted : (s.boundary.withInertOptions o).interruptAccepted =
    s.boundary.interruptAccepted := rfl
  have hfetch : (s.boundary.withInertOptions o).fetch = s.boundary.fetch := rfl
  unfold step
  rw [boundary_withInertOptions, hhalted, haccepted, hfetch, takeInterrupt_withInertOptions]
  split
  next => rfl
  next =>
    split
    next => rfl
    next =>
      cases s.boundary.fetch with
      | ok i => exact exec_withInertOptions i s.boundary o
      | error e => rfl

/-! ## The levels of the input pins -/

/-- A driven pin has the level that drives it (R186). -/
theorem pinLevel_of_driven {s : State} {i : Nat} (h : s.pins.driven.getLsbD i = true) (n : Nat) :
    s.pinLevel n i = s.pins.level.getLsbD i :=
  if_pos h

/-- An undriven pin with pull-high reads 1, whatever the free level of the draw (R186). -/
theorem pinLevel_of_pullHigh {s : State} {i : Nat} (hfree : s.pins.driven.getLsbD i = false)
    (hpull : s.cfg.pullHigh.getLsbD i = true) (n : Nat) : s.pinLevel n i = true := by
  simp [State.pinLevel, hfree, hpull]

/-- The bits of the PS port: bit i is pin PSi (R187, D20). -/
theorem readPS_getLsbD (s : State) {i : Nat} (hi : i < 4) :
    s.readPS.getLsbD i = s.pinLevel s.draws i := by
  simp only [State.readPS, BitVec.getLsbD_append]
  interval_cases i <;> simp

/-- The bits of the PM port below the free one: bit i is pin PMi (R186, D20). -/
theorem append_readPM_getLsbD (s : State) (x : BitVec 1) {i : Nat} (hi : i < 3) :
    (x ++ s.readPM : Nibble).getLsbD i = s.pinLevel s.draws (4 + i) := by
  simp only [State.readPM, BitVec.getLsbD_append]
  interval_cases i <;> simp

/-- An instruction that reads a port into ACC and moves on completes with whatever holds of the state
it leaves; besides ACC and the program counter it uses up one draw. -/
theorem completesWith_of_setAcc_drawn {i : Instr} {s : State} {v : Nibble} {n : CodeAddr}
    {post : State → Prop} (hexec : exec i s = .next ((s.setAcc v).drawn.advance n))
    (hpost : post ((s.setAcc v).drawn.advance n)) :
    CompletesWith i s [.acc, .pc, .draws] post :=
  ⟨_, hexec, hpost,
    changesOnly_mono (changesOnly_advance
      (changesOnly_append (setAcc_changesOnly s v) (drawn_changesOnly _)) n) (by decide)⟩

/-- Settles O37, from the pin that each bit of ACC reads and the level of that pin. -/
theorem inputPortsReadThePins : Obligations.InputPortsReadThePins := by
  intro s
  refine ⟨completesWith_of_setAcc_drawn (exec_inAPS s) ⟨rfl, fun i hi => ?_⟩,
    completesWith_of_setAcc_drawn (exec_inAPM s) ⟨rfl, fun i hi => ?_⟩⟩
  · rw [advance_acc, drawn_acc, setAcc_acc, readPS_getLsbD s hi]
    exact ⟨(pinLevel_of_driven · _), (pinLevel_of_pullHigh · · _)⟩
  · rw [advance_acc, drawn_acc, setAcc_acc, append_readPM_getLsbD s _ hi]
    exact ⟨(pinLevel_of_driven · _), (pinLevel_of_pullHigh · · _)⟩

/-! ## The output latches -/

/-- The level of an output pin by its latch bit, then by its output type (R190). -/
theorem outLevel_eq (latch openDrain : Bool) :
    outLevel latch openDrain =
      if latch = false then .low else if openDrain = true then .floating else .high := by
  cases latch <;> rfl

/-- Settles O38: both latches receive ACC, and the pins, the LCD switch and the RAM bank are read off
the new latch. -/
theorem outputPortsLatchTheAccumulator : Obligations.OutputPortsLatchTheAccumulator := by
  intro s
  refine ⟨⟨rfl, rfl⟩, ⟨rfl, rfl⟩,
    ⟨_, exec_outPAA s, ⟨rfl, rfl, rfl, fun i _ => outLevel_eq _ _⟩, ?_⟩,
    ⟨_, exec_outPCA s, ⟨rfl, rfl, rfl, outLevel_eq _ _, outLevel_eq _ _, rfl,
      cell_eq_by_area ((s.outPC s.acc).advance 1#12)⟩, ?_⟩⟩
  · exact changesOnly_mono (changesOnly_advance (outPA_changesOnly s s.acc) 1#12) (by decide)
  · exact changesOnly_mono (changesOnly_advance (outPC_changesOnly s s.acc) 1#12) (by decide)

end Sys2Proof.Proofs
end

section
/-! Branch (46_branch.md): the meaning of each jump, the conditions in numbers, and one completion lemma
for all branches that write the program counter alone. -/

namespace Sys2Proof.Proofs
open Sys2Proof.Machine

/-! ## The zero test in numbers -/

/-- The zero test of `JZ` (R202). -/
theorem nibble_beq_zero (v : Nibble) : (v == 0#4) = decide (v.toNat = 0) := by
  rw [beq_eq_decide, decide_eq_decide]
  exact BitVec.toNat_inj.symm

/-- The non-zero test of `JNZ` (R203, R204). -/
theorem nibble_bne_zero (v : Nibble) : (v != 0#4) = decide (v.toNat ≠ 0) := by
  rw [bne, nibble_beq_zero, decide_not]

/-! ## What the instructions do -/

@[simp] theorem exec_jmp (a : CodeAddr) (s : State) : exec (.jmp a) s = .next (s.jump a) := rfl

@[simp] theorem exec_jc (a : HalfAddr) (s : State) :
    exec (.jc a) s = .next (s.condBranch s.cf a) := rfl

@[simp] theorem exec_jnc (a : HalfAddr) (s : State) :
    exec (.jnc a) s = .next (s.condBranch (!s.cf) a) := rfl

@[simp] theorem exec_ja0 (a : HalfAddr) (s : State) :
    exec (.ja0 a) s = .next (s.condBranch (s.acc.getLsbD 0) a) := rfl

@[simp] theorem exec_ja1 (a : HalfAddr) (s : State) :
    exec (.ja1 a) s = .next (s.condBranch (s.acc.getLsbD 1) a) := rfl

@[simp] theorem exec_ja2 (a : HalfAddr) (s : State) :
    exec (.ja2 a) s = .next (s.condBranch (s.acc.getLsbD 2) a) := rfl

@[simp] theorem exec_ja3 (a : HalfAddr) (s : State) :
    exec (.ja3 a) s = .next (s.condBranch (s.acc.getLsbD 3) a) := rfl

@[simp] theorem exec_jzA (a : HalfAddr) (s : State) :
    exec (.jzA a) s = .next (s.condBranch (decide (s.acc.toNat = 0)) a) := by
  rw [← nibble_beq_zero]; rfl

@[simp] theorem exec_jnzA (a : HalfAddr) (s : State) :
    exec (.jnzA a) s = .next (s.condBranch (decide (s.acc.toNat ≠ 0)) a) := by
  rw [← nibble_bne_zero]; rfl

@[simp] theorem exec_jnzR0 (a : HalfAddr) (s : State) :
    exec (.jnzR0 a) s = .next (s.condBranch (decide ((s.reg .r0).toNat ≠ 0)) a) := by
  rw [← nibble_bne_zero]; rfl

@[simp] theorem exec_jnzR1 (a : HalfAddr) (s : State) :
    exec (.jnzR1 a) s = .next (s.condBranch (decide ((s.reg .r1).toNat ≠ 0)) a) := by
  rw [← nibble_bne_zero]; rfl

@[simp] theorem exec_jnzR4 (a : HalfAddr) (s : State) :
    exec (.jnzR4 a) s = .next (s.condBranch (decide ((s.reg .r4).toNat ≠ 0)) a) := by
  rw [← nibble_bne_zero]; rfl

@[simp] theorem exec_jtmr (a : HalfAddr) (s : State) :
    exec (.jtmr a) s = .next ((s.condBranch s.tf a).setTf false) := rfl

/-! ## Where the jumps go -/

/-- Settles O39: the encoding and the one operation of `JMP`, which writes the program counter alone. -/
theorem unconditionalJump : Obligations.UnconditionalJump := by
  intro s a
  exact ⟨⟨rfl, rfl⟩, s.jump a, exec_jmp a s, jump_pc s a, jump_changesOnly s a⟩

/-- An instruction that is a conditional branch and nothing else completes, goes where R196 says and
writes the program counter alone. -/
theorem completesWith_of_condBranch {i : Instr} {s : State} {taken : Bool} {a : HalfAddr}
    (hexec : exec i s = .next (s.condBranch taken a)) :
    CompletesWith i s [.pc] (branchGoesTo s taken a) :=
  ⟨_, hexec, condBranch_goes s taken a, condBranch_changesOnly s taken a⟩

/-- Clearing TF after the branch, as `JTMR` does (R200), leaves the program counter where it went. -/
theorem branchGoesTo_setTf (s : State) (taken b : Bool) (a : HalfAddr) :
    branchGoesTo s taken a ((s.condBranch taken a).setTf b) := by
  have hgoes := condBranch_goes s taken a
  unfold branchGoesTo at hgoes ⊢
  rwa [setTf_pc]

/-- `JTMR` goes where R196 says by the TF it found, and changes the program counter and TF alone. -/
theorem completesWith_jtmr (s : State) (a : HalfAddr) :
    CompletesWith (.jtmr a) s [.pc, .tf] (fun t => branchGoesTo s s.tf a t ∧ t.tf = false) :=
  ⟨_, exec_jtmr a s, ⟨branchGoesTo_setTf s s.tf false a, setTf_tf _ false⟩,
    changesOnly_mono (changesOnly_append (condBranch_changesOnly s s.tf a) (setTf_changesOnly _ false))
      (by decide)⟩

/-- Settles O40: eleven branches are one conditional branch on a condition of their own; `JTMR` is one
that clears TF besides. -/
theorem conditionalBranches : Obligations.ConditionalBranches := by
  intro s a
  exact ⟨completesWith_of_condBranch (exec_jc a s),
    completesWith_of_condBranch (exec_jnc a s),
    completesWith_of_condBranch (exec_ja0 a s),
    completesWith_of_condBranch (exec_ja1 a s),
    completesWith_of_condBranch (exec_ja2 a s),
    completesWith_of_condBranch (exec_ja3 a s),
    completesWith_of_condBranch (exec_jzA a s),
    completesWith_of_condBranch (exec_jnzA a s),
    completesWith_of_condBranch (exec_jnzR0 a s),
    completesWith_of_condBranch (exec_jnzR1 a s),
    completesWith_of_condBranch (exec_jnzR4 a s),
    completesWith_jtmr s a⟩

end Sys2Proof.Proofs
end

section
/-! Subroutine and flag (47_subroutine_flag.md): the meaning of each instruction, and one completion
lemma that takes the frame from `exec_changesOnly`. -/

namespace Sys2Proof.Proofs
open Sys2Proof.Machine

/-! ## What the instructions do -/

@[simp] theorem exec_ret (s : State) : exec .ret s = .next s.returnSub := rfl

@[simp] theorem exec_reti (s : State) : exec .reti s = .next s.returnInt := rfl

@[simp] theorem exec_clc (s : State) : exec .clc s = .next ((s.setCf false).advance 1#12) := rfl

@[simp] theorem exec_stc (s : State) : exec .stc s = .next ((s.setCf true).advance 1#12) := rfl

@[simp] theorem exec_ei (s : State) : exec .ei s = .next ((s.setIe true).advance 1#12) := rfl

@[simp] theorem exec_di (s : State) : exec .di s = .next ((s.setIe false).advance 1#12) := rfl

@[simp] theorem exec_nop (s : State) : exec .nop s = .next (s.advance 1#12) := rfl

/-- CALL in an interrupt routine is the fault of R211. -/
theorem exec_call_of_isr {s : State} (h : s.sub = .isr) (a : CodeAddr) :
    exec (.call a) s = .fault .callInIsr := by
  show execCall a s = _
  rw [execCall, h]

/-- CALL anywhere else completes, nested or not (R211, D16). -/
theorem exec_call_of_not_isr {s : State} (h : s.sub ≠ .isr) (a : CodeAddr) :
    exec (.call a) s = .next (s.callTo a) := by
  show execCall a s = _
  unfold execCall
  cases hsub : s.sub with
  | isr => exact absurd hsub h
  | none | call => rfl

/-! ## Completing within the frame -/

/-- An instruction that answers a next state completes with whatever holds of that state, and with any
frame that contains its own. -/
theorem completesWith_of_exec {i : Instr} {s t : State} {listed : List Field} {post : State → Prop}
    (hexec : exec i s = .next t) (hpost : post t) (hframe : ∀ f ∈ writes s i, f ∈ listed) :
    CompletesWith i s listed post :=
  ⟨t, hexec, hpost, changesOnly_mono (exec_changesOnly hexec) hframe⟩

/-- Settles O41, by whether SUB is isr. -/
theorem callSavesTheReturnAddress : Obligations.CallSavesTheReturnAddress := by
  intro s a
  refine ⟨fun hsub => ?_, fun hsub => exec_call_of_isr hsub a⟩
  exact completesWith_of_exec (exec_call_of_not_isr hsub a) ⟨BitVec.toNat_add s.pc 2#12, rfl, rfl⟩
    (by simp [writes])

/-- Settles O42: each return is one operation on the stack register. -/
theorem returnsRestoreTheCounter : Obligations.ReturnsRestoreTheCounter := by
  intro s
  exact ⟨completesWith_of_exec (exec_ret s) ⟨rfl, rfl⟩ (by simp [writes]),
    completesWith_of_exec (exec_reti s) ⟨rfl, rfl, rfl⟩ (by simp [writes])⟩

/-- Settles O44; the three words are the round trip of their instructions. -/
theorem carryInstructionsAndNop : Obligations.CarryInstructionsAndNop := by
  intro s
  exact ⟨⟨rfl, rfl⟩, ⟨rfl, rfl⟩, ⟨rfl, rfl⟩,
    completesWith_of_exec (exec_clc s) ⟨rfl, rfl⟩ (by simp [writes]),
    completesWith_of_exec (exec_stc s) ⟨rfl, rfl⟩ (by simp [writes]),
    completesWith_of_exec (exec_nop s) rfl (by simp [writes]),
    decodeOfEncodeIsTheInstruction .halt [], decodeOfEncodeIsTheInstruction .rrA [],
    decodeOfEncodeIsTheInstruction (.call 0xFFF#12) []⟩

/-! ## The enable flag -/

/-- When an interrupt is accepted (R275). -/
theorem interruptAccepted_iff (s : State) :
    s.interruptAccepted = true ↔
      s.halted = false ∧ s.ie = true ∧ s.sub = .none ∧ (s.rtcf = true ∨ s.tf = true) := by
  simp [State.interruptAccepted, and_assoc]

/-- With interrupts disabled, or within a subroutine, none is accepted (R275). -/
theorem interruptAccepted_eq_false {s : State} (h : s.ie = false ∨ s.sub ≠ .none) :
    s.interruptAccepted = false := by
  rw [Bool.eq_false_iff, ne_eq, interruptAccepted_iff]
  rintro ⟨-, hie, hsub, -⟩
  rcases h with h | h
  · exact Bool.false_ne_true (h.symm.trans hie)
  · exact h hsub

/-- Settles O45: acceptance after EI and DI is read off the condition of R275. -/
theorem enableAndDisableInterrupts : Obligations.EnableAndDisableInterrupts := by
  intro s
  refine ⟨completesWith_of_exec (exec_ei s) ⟨rfl, rfl, ?_⟩ (by simp [writes]),
    completesWith_of_exec (exec_di s) ⟨rfl, rfl, interruptAccepted_eq_false (.inl rfl)⟩
      (by simp [writes])⟩
  simp [interruptAccepted_iff]

end Sys2Proof.Proofs
end

section
/-! Timer and table reads (48_timer_tableread.md): the meaning of each instruction, the counter after
any number of ticks, what a read of the timer samples, and the byte a table read splits. -/

namespace Sys2Proof.Proofs
open Sys2Proof.Machine

/-! ## What the instructions do -/

@[simp] theorem exec_timerImm (xx : Byte) (s : State) :
    exec (.timerImm xx) s = .next ((s.setTmr xx).advance 2#12) := rfl

@[simp] theorem exec_timerOn (s : State) :
    exec .timerOn s = .next ((s.setTon true).advance 1#12) := rfl

@[simp] theorem exec_timerOff (s : State) :
    exec .timerOff s = .next ((s.setTon false).advance 1#12) := rfl

@[simp] theorem exec_movATmrl (s : State) :
    exec .movATmrl s =
      .next ((s.setAcc (s.timerSample.extractLsb' 0 4)).sampled.advance 1#12) := rfl

@[simp] theorem exec_movATmrh (s : State) :
    exec .movATmrh s =
      .next ((s.setAcc (s.timerSample.extractLsb' 4 4)).sampled.advance 1#12) := rfl

@[simp] theorem exec_movTmrlA (s : State) :
    exec .movTmrlA s = .next ((s.setTmr (s.tmr.extractLsb' 4 4 ++ s.acc)).advance 1#12) := rfl

@[simp] theorem exec_movTmrhA (s : State) :
    exec .movTmrhA s = .next ((s.setTmr (s.acc ++ s.tmr.extractLsb' 0 4)).advance 1#12) := rfl

@[simp] theorem exec_readR4A (s : State) :
    exec .readR4A s =
      .next ((s.tableToR4 (s.tableByte s.currentPage (s.memRead s.ptr10))).advance 1#12) := rfl

@[simp] theorem exec_readMR0A (s : State) :
    exec .readMR0A s =
      .next ((s.tableToMem (s.tableByte s.currentPage (s.reg .r4))).advance 1#12) := rfl

@[simp] theorem exec_readfR4A (s : State) :
    exec .readfR4A s =
      .next ((s.tableToR4 (s.tableByte 0xF#4 (s.memRead s.ptr10))).advance 1#12) := rfl

@[simp] theorem exec_readfMR0A (s : State) :
    exec .readfMR0A s =
      .next ((s.tableToMem (s.tableByte 0xF#4 (s.reg .r4))).advance 1#12) := rfl

/-! ## Counting -/

/-- The counter and TF after `n` ticks of a running timer (R270): TF is set by the tick that finds FFH,
which is the one that brings `TMR + n` to 256 or a later multiple. -/
theorem timerTicks_running {s : State} (h : s.ton = true) (n : Nat) :
    (s.timerTicks n).ton = true ∧ (s.timerTicks n).tmr.toNat = (s.tmr.toNat + n) % 256 ∧
      ((s.timerTicks n).tf = true ↔ s.tf = true ∨ 256 ≤ s.tmr.toNat + n) := by
  have htmr := s.tmr.isLt
  induction n with
  | zero => exact ⟨h, by simp [State.timerTicks]; omega, by simp [State.timerTicks]; omega⟩
  | succ n ih =>
    obtain ⟨hton, hcount, hflag⟩ := ih
    obtain ⟨hton', hcount', hflag'⟩ := timerTick_running (s.timerTicks n) hton
    have hoverflow : 256 ≤ s.tmr.toNat + n ∨ (s.tmr.toNat + n) % 256 = 255 ↔
        256 ≤ s.tmr.toNat + (n + 1) := by omega
    rw [hcount] at hcount' hflag'
    rw [hflag, or_assoc, hoverflow] at hflag'
    exact ⟨hton', hcount'.trans (by omega), hflag'⟩

/-- A stopped timer ignores any number of ticks (R227). -/
theorem timerTicks_stopped {s : State} (h : s.ton = false) (n : Nat) : s.timerTicks n = s := by
  induction n with
  | zero => rfl
  | succ n ih => rw [timerTicks_succ, timerTick_stopped s h, ih]

/-- Ticks write TMR and TF alone. -/
theorem timerTicks_changesOnly (s : State) (n : Nat) :
    ChangesOnly [.tmr, .tf] s (s.timerTicks n) := by
  induction n with
  | zero => exact changesOnly_refl _ s
  | succ n ih => exact changesOnly_trans ih (timerTick_changesOnly (s.timerTicks n))

/-- Settles O47: the load is one operation, and the ticks are counted by induction. -/
theorem timerCountsUpAndOverflows : Obligations.TimerCountsUpAndOverflows := by
  intro s xx
  refine ⟨⟨rfl, rfl⟩, decodeOfEncodeIsTheInstruction (.timerImm xx) [],
    completesWith_of_exec (exec_timerImm xx s) ⟨rfl, rfl⟩ (by simp [writes]),
    fun hrun n => ?_, fun hstop n => timerTicks_stopped hstop n⟩
  obtain ⟨-, hcount, hflag⟩ := timerTicks_running hrun n
  exact ⟨hcount, hflag, timerTicks_changesOnly s n⟩

/-- Settles O46; after TIMER OFF the timer is stopped, so that a tick has no effect. -/
theorem timerStartAndStop : Obligations.TimerStartAndStop := by
  intro s
  exact ⟨⟨rfl, rfl⟩, ⟨rfl, rfl⟩,
    completesWith_of_exec (exec_timerOn s) ⟨rfl, rfl⟩ (by simp [writes]),
    completesWith_of_exec (exec_timerOff s) ⟨rfl, rfl, timerTick_stopped _ rfl⟩ (by simp [writes])⟩

/-! ## Reading and writing the counter -/

/-- The nibbles of a byte in numbers. -/
theorem nibbles_toNat (b : Byte) :
    (b.extractLsb' 0 4).toNat = b.toNat % 16 ∧ (b.extractLsb' 4 4).toNat = b.toNat / 16 := by
  have hsplit := toNat_nibbles b
  have hlow := (b.extractLsb' 0 4).isLt
  omega

/-- A stopped or internally clocked timer is sampled exactly (R228, D22). -/
theorem timerSample_exact {s : State} (h : s.ton = false ∨ s.cfg.timerSrc ≠ .external) :
    s.timerSample = s.tmr := by
  have hsync : s.timerUnsynchronised = false := by
    rcases h with h | h <;> simp [State.timerUnsynchronised, h]
  rw [State.timerSample, hsync]
  exact if_neg Bool.false_ne_true

/-- Settles O48: each read takes its nibble of the sample. -/
theorem timerReads : Obligations.TimerReads := by
  intro s
  obtain ⟨hlow, hhigh⟩ := nibbles_toNat s.tmr
  refine ⟨completesWith_of_exec (exec_movATmrl s) ⟨?_, fun hsync => ?_⟩ (by simp [writes]),
    completesWith_of_exec (exec_movATmrh s) ⟨?_, fun hsync => ?_⟩ (by simp [writes])⟩
  · rw [advance_pc, sampled_pc, setAcc_pc]
  · rw [advance_acc, sampled_acc, setAcc_acc, timerSample_exact hsync, hlow]
  · rw [advance_pc, sampled_pc, setAcc_pc]
  · rw [advance_acc, sampled_acc, setAcc_acc, timerSample_exact hsync, hhigh]

/-- Settles O49: a byte made of two nibbles, of which one is the counter's own. -/
theorem timerNibbleWrites : Obligations.TimerNibbleWrites := by
  intro s
  obtain ⟨hlow, hhigh⟩ := nibbles_toNat s.tmr
  refine ⟨⟨rfl, rfl⟩, ⟨rfl, rfl⟩,
    completesWith_of_exec (exec_movTmrlA s) ⟨?_, rfl⟩ (by simp [writes]),
    completesWith_of_exec (exec_movTmrhA s) ⟨?_, rfl⟩ (by simp [writes])⟩
  · rw [advance_tmr, setTmr_tmr, toNat_append_nibbles, hhigh]
  · rw [advance_tmr, setTmr_tmr, toNat_append_nibbles, hlow]

/-! ## Table reads -/

/-- The byte of a READ by its 14-bit address (R233). -/
theorem tableByte_currentPage (s : State) (low : Nibble) :
    s.tableByte s.currentPage low = s.romByte (tableAddress s (pageAfter s) low.toNat) := by
  rw [tableByte_eq, currentPage_eq]

/-- A table read into R4 and ACC splits its byte over the two (R234, R236). -/
theorem completesWith_of_tableToR4 {i : Instr} {s : State} {b c : Byte}
    (hexec : exec i s = .next ((s.tableToR4 b).advance 1#12)) (hb : b = c)
    (hframe : writes s i = [.pc, .acc, .reg .r4]) :
    CompletesWith i s [.reg .r4, .acc, .pc] (fun t => t.pc = s.pc + 1#12 ∧
      c.toNat = 16 * (t.reg .r4).toNat + t.acc.toNat) := by
  subst hb
  exact completesWith_of_exec hexec ⟨rfl, toNat_nibbles b⟩ (by simp [hframe])

/-- A table read into data memory and ACC splits its byte over the two (R235, R237). -/
theorem completesWith_of_tableToMem {i : Instr} {s : State} {b c : Byte}
    (hexec : exec i s = .next ((s.tableToMem b).advance 1#12)) (hb : b = c)
    (hframe : writes s i = [.pc, .acc, .ramCell (s.cell s.ptr10)]) :
    CompletesWith i s [.ramCell (s.cell s.ptr10), .acc, .pc] (fun t => t.pc = s.pc + 1#12 ∧
      c.toNat = 16 * (t.ramCell (s.cell s.ptr10)).toNat + t.acc.toNat) := by
  subst hb
  refine completesWith_of_exec hexec ⟨rfl, ?_⟩ (by simp [hframe])
  rw [advance_ramCell, tableToMem_ramCell, if_pos rfl]
  exact toNat_nibbles b

/-- Settles O50, by the two destinations and the byte at each of the four addresses. -/
theorem tableReads : Obligations.TableReads := by
  intro s
  exact ⟨completesWith_of_tableToR4 (exec_readR4A s) (tableByte_currentPage s _) rfl,
    completesWith_of_tableToMem (exec_readMR0A s) (tableByte_currentPage s _) rfl,
    completesWith_of_tableToR4 (exec_readfR4A s) (tableByte_eq s 0xF#4 _) rfl,
    completesWith_of_tableToMem (exec_readfMR0A s) (tableByte_eq s 0xF#4 _) rfl⟩

end Sys2Proof.Proofs
end

section
/-! The agents' events (60_exceptions.md sections 4, 5 and 8): which edge is a tick of the counter, the
frame of one event, and what a boundary without a RES pulse keeps. -/

namespace Sys2Proof.Proofs
open Sys2Proof.Machine

/-! ## Clock edges and the counter -/

/-- The edge is a tick of the counter (R269): an internal edge under an internal clock outside HALT, a
TMCLK edge under the external clock outside HALT or where it counts there (R289). -/
def edgeCounts (s : State) : Event → Bool
  | .internalTick => s.cfg.timerSrc != .external && !s.halted
  | .tmclkRise => s.cfg.timerSrc == .external && !(s.halted && s.cfg.timerExtInHalt == .stops)
  | _ => false

/-- An edge of either clock ticks the counter if it counts, and else does nothing. -/
theorem applyEvent_clockEdge (s : State) {e : Event} (he : e = .internalTick ∨ e = .tmclkRise) :
    s.applyEvent e = if edgeCounts s e then s.timerTick else s := by
  cases hsrc : s.cfg.timerSrc with
  | external =>
    obtain ⟨hinternal, htmclk⟩ := applyEvent_external s hsrc
    rcases he with rfl | rfl
    · simp [hinternal, edgeCounts, hsrc]
    · rw [htmclk]
      cases h : s.halted && s.cfg.timerExtInHalt == .stops <;> simp [edgeCounts, hsrc, h]
  | internal n =>
    obtain ⟨hinternal, htmclk⟩ := applyEvent_internal s hsrc
    rcases he with rfl | rfl
    · rw [hinternal]
      cases h : s.halted <;> simp [edgeCounts, hsrc, h]
    · simp [htmclk, edgeCounts, hsrc]

/-- A tick changes nothing that decides which edges count. -/
theorem edgeCounts_timerTick (s : State) : edgeCounts s.timerTick = edgeCounts s := by
  funext e
  cases e <;> simp [edgeCounts]

/-- Under an internal clock a running core counts the internal edges alone. -/
theorem edgeCounts_of_internal {s : State} {n : Fin 14} (hsrc : s.cfg.timerSrc = .internal n)
    (hrun : s.halted = false) : edgeCounts s = (· == .internalTick) := by
  funext e
  cases e <;> simp [edgeCounts, hsrc, hrun]

/-- Under the external clock the TMCLK edges alone count, in HALT if the option says so. -/
theorem edgeCounts_of_external {s : State} (hsrc : s.cfg.timerSrc = .external)
    (h : s.halted = false ∨ s.cfg.timerExtInHalt = .counts) :
    edgeCounts s = (· == .tmclkRise) := by
  funext e
  rcases h with h | h <;> cases e <;> simp [edgeCounts, hsrc, h]

/-- In HALT no edge counts under an internal clock, or where the external one stops. -/
theorem edgeCounts_of_frozen {s : State} (hhalt : s.halted = true)
    (h : s.cfg.timerSrc ≠ .external ∨ s.cfg.timerExtInHalt = .stops) (e : Event) :
    edgeCounts s e = false := by
  rcases h with h | h <;> cases e <;> simp [edgeCounts, hhalt, h]

/-! ## The frame of one event -/

/-- The pieces of state that an event other than a RES pulse may change (R7). -/
def eventWrites : Event → List Field
  | .internalTick | .tmclkRise => [.tmr, .tf]
  | .rtc => [.rtcf]
  | .pins _ => [.pins, .draws, .halted]
  | .soundEnd => [.sndOn]
  | .writePB _ => [.pb]
  | .resLow => []

theorem endSound_changesOnly (s : State) : ChangesOnly [.sndOn] s s.endSound := by
  intro f hf
  cases f with
  | sndOn => simp at hf
  | _ => rfl

theorem setPb_changesOnly (s : State) (v : BitVec 2) : ChangesOnly [.pb] s { s with pb := v } := by
  intro f hf
  cases f with
  | pb => simp at hf
  | _ => rfl

theorem setRtcf_changesOnly (s : State) (b : Bool) :
    ChangesOnly [.rtcf] s { s with rtcf := b } := by
  intro f hf
  cases f with
  | rtcf => simp at hf
  | _ => rfl

theorem setSchedule_changesOnly (s : State) (rest : List (List Event)) :
    ChangesOnly [.schedule] s { s with schedule := rest } := by
  intro f hf
  cases f with
  | schedule => simp at hf
  | _ => rfl

theorem changePins_changesOnly (s : State) (p : Pins) :
    ChangesOnly [.pins, .draws, .halted] s (s.changePins p) := by
  intro f hf
  cases f with
  | pins | draws | halted => simp at hf
  | _ => rfl

theorem wake_changesOnly (s : State) : ChangesOnly [.halted] s s.wake :=
  setHalted_changesOnly s _

/-- An operation done under a condition has the frame of the operation. -/
theorem ite_changesOnly {l : List Field} {s t : State} (c : Prop) [Decidable c]
    (h : ChangesOnly l s t) : ChangesOnly l s (if c then t else s) := by
  split
  · exact h
  · exact changesOnly_refl l s

/-- What an event leaves unchanged: everything outside `eventWrites`. -/
theorem applyEvent_changesOnly (s : State) {e : Event} (he : e ≠ .resLow) :
    ChangesOnly (eventWrites e) s (s.applyEvent e) := by
  cases e with
  | internalTick =>
    rw [applyEvent_clockEdge s (.inl rfl)]
    exact ite_changesOnly _ (timerTick_changesOnly s)
  | tmclkRise =>
    rw [applyEvent_clockEdge s (.inr rfl)]
    exact ite_changesOnly _ (timerTick_changesOnly s)
  | rtc => exact setRtcf_changesOnly s true
  | pins p => exact changePins_changesOnly s p
  | soundEnd =>
    cases hhalt : s.halted with
    | true =>
      rw [(applyEvent_frozen s 0#2 hhalt).1]
      exact changesOnly_refl _ s
    | false =>
      simp only [State.applyEvent, hhalt]
      exact endSound_changesOnly s
  | writePB v => exact ite_changesOnly _ (setPb_changesOnly s v)
  | resLow => exact absurd rfl he

/-! ## The requests through one event -/

/-- Short of reset, RTCF is set after an event if it was or if the event is the RTC's (R266, R274). -/
theorem applyEvent_rtcf_iff (s : State) {e : Event} (he : e ≠ .resLow) :
    (s.applyEvent e).rtcf = true ↔ s.rtcf = true ∨ e = .rtc := by
  by_cases hrtc : e = .rtc
  · subst hrtc
    exact iff_of_true rfl (.inr rfl)
  · have hsame : (s.applyEvent e).rtcf = s.rtcf :=
      applyEvent_changesOnly s he .rtcf (by cases e <;> simp_all [eventWrites])
    rw [hsame, or_iff_left hrtc]

/-- Short of reset, no event clears TF (R265). -/
theorem applyEvent_tf {s : State} (h : s.tf = true) {e : Event} (he : e ≠ .resLow) :
    (s.applyEvent e).tf = true := by
  by_cases hedge : e = .internalTick ∨ e = .tmclkRise
  · rw [applyEvent_clockEdge s hedge]
    split
    · rw [timerTick_tf, h, Bool.true_or]
    · exact h
  · have hsame : (s.applyEvent e).tf = s.tf :=
      applyEvent_changesOnly s he .tf (by cases e <;> simp_all [eventWrites])
    rw [hsame, h]

/-! ## The boundary without a RES pulse -/

/-- No RES pulse falls at the coming boundary. -/
def NoReset (s : State) : Prop := ∀ es, s.schedule.head? = some es → Event.resLow ∉ es

/-- What the wake-up check and each event of a batch keep, the batch keeps. -/
theorem applyEvents_induction_of_mem {P : State → Prop} (hwake : ∀ s, P s → P s.wake)
    {es : List Event} (hevent : ∀ s, ∀ e ∈ es, P s → P (s.applyEvent e)) :
    ∀ s : State, P s → P (s.applyEvents es) := by
  induction es with
  | nil => exact fun _ h => h
  | cons e es ih =>
    intro s h
    rw [applyEvents_cons]
    exact ih (fun t f hf => hevent t f (List.mem_cons_of_mem e hf)) _
      (hwake _ (hevent s e List.mem_cons_self h))

/-- What the wake-up check and every event but a RES pulse keep, whatever is still scheduled, a boundary
without a RES pulse keeps. -/
theorem boundary_induction_of_noReset {P : State → Prop} (hwake : ∀ s, P s → P s.wake)
    (hevent : ∀ s e, e ≠ .resLow → P s → P (s.applyEvent e))
    (hschedule : ∀ s rest, P s → P { s with schedule := rest }) {s : State} (hno : NoReset s)
    (h : P s) : P s.boundary := by
  match hs : s.schedule with
  | [] => rw [boundary_of_no_event s hs]; exact hwake s h
  | es :: rest =>
    have hbatch : Event.resLow ∉ es := hno es (by rw [hs]; rfl)
    rw [boundary_of_batch s hs]
    exact applyEvents_induction_of_mem hwake
      (fun t e he => hevent t e fun hres => hbatch (hres ▸ he)) _ (hwake _ (hschedule s rest h))

/-- The pieces of state that the agents reach without a RES pulse (R7). -/
def boundaryWrites : List Field :=
  [.tmr, .tf, .rtcf, .pins, .draws, .halted, .sndOn, .pb, .schedule]

theorem eventWrites_subset_boundaryWrites (e : Event) : ∀ f ∈ eventWrites e, f ∈ boundaryWrites := by
  cases e <;> simp [eventWrites, boundaryWrites]

/-- What the boundary leaves unchanged: everything outside `boundaryWrites`. -/
theorem boundary_changesOnly {s : State} (hno : NoReset s) :
    ChangesOnly boundaryWrites s s.boundary := by
  refine boundary_induction_of_noReset (P := ChangesOnly boundaryWrites s) ?_ ?_ ?_ hno
    (changesOnly_refl _ s)
  · exact fun t h => changesOnly_trans h (changesOnly_mono (wake_changesOnly t) (by decide))
  · exact fun t e he h => changesOnly_trans h
      (changesOnly_mono (applyEvent_changesOnly t he) (eventWrites_subset_boundaryWrites e))
  · exact fun t rest h =>
      changesOnly_trans h (changesOnly_mono (setSchedule_changesOnly t rest) (by decide))

/-- A batch without a RES pulse leaves RTCF set if it was or if the RTC is in the batch. -/
theorem applyEvents_rtcf_iff {es : List Event} (hno : Event.resLow ∉ es) : ∀ s : State,
    (s.applyEvents es).rtcf = true ↔ s.rtcf = true ∨ .rtc ∈ es := by
  induction es with
  | nil => simp [applyEvents_nil]
  | cons e es ih =>
    intro s
    have hne := List.ne_of_not_mem_cons hno
    have hrest := List.not_mem_of_not_mem_cons hno
    rw [applyEvents_cons, ih hrest, wake_rtcf, applyEvent_rtcf_iff s (Ne.symm hne), List.mem_cons,
      or_assoc, eq_comm (a := e)]

/-- A boundary without a RES pulse leaves RTCF set if it was or if an RTC event falls there. -/
theorem boundary_rtcf_iff {s : State} (hno : NoReset s) :
    s.boundary.rtcf = true ↔
      s.rtcf = true ∨ ∃ es, s.schedule.head? = some es ∧ .rtc ∈ es := by
  match hs : s.schedule with
  | [] => simp [boundary_of_no_event s hs]
  | es :: rest =>
    have hbatch : Event.resLow ∉ es := hno es (by rw [hs]; rfl)
    simp [boundary_of_batch s hs, applyEvents_rtcf_iff hbatch]

/-- A boundary without a RES pulse leaves TF set if it was. -/
theorem boundary_tf {s : State} (hno : NoReset s) (h : s.tf = true) : s.boundary.tf = true :=
  boundary_induction_of_noReset (P := (·.tf = true)) (fun _ h => h) (fun _ _ he h => applyEvent_tf h he)
    (fun _ _ h => h) hno h

/-! ## The wake-up check -/

/-- The wake-up check does nothing without an RTC request (R286). -/
theorem wake_of_no_request {s : State} (h : s.rtcf = false) : s.wake = s := by
  cases s
  simp_all [State.wake, State.setHalted]

/-- A batch leaves what it finds, or ends with a wake-up check. -/
theorem applyEvents_eq_wake {s : State} (h : ∃ t : State, s = t.wake) (es : List Event) :
    ∃ t : State, s.applyEvents es = t.wake := by
  induction es generalizing s with
  | nil => exact h
  | cons e es ih => exact ih ⟨s.applyEvent e, rfl⟩

/-- Whatever falls at the boundary, a wake-up check comes last. -/
theorem boundary_eq_wake (s : State) : ∃ t : State, s.boundary = t.wake := by
  match hs : s.schedule with
  | [] => exact ⟨s, boundary_of_no_event s hs⟩
  | es :: rest =>
    rw [boundary_of_batch s hs]
    exact applyEvents_eq_wake ⟨_, rfl⟩ es

/-- After the boundary a core with an RTC request runs (R286, D23). -/
theorem boundary_runs_of_rtcf {s : State} (h : s.boundary.rtcf = true) :
    s.boundary.halted = false := by
  obtain ⟨t, ht⟩ := boundary_eq_wake s
  rw [ht, wake_rtcf] at h
  rw [ht, wake_halted, h, Bool.not_true, Bool.and_false]

end Sys2Proof.Proofs
end

section
/-! Sound, HALT and the sinks (49_sound_misc.md): the pieces of state that nothing reads back, through
every part of a step; the sound commands and HALT as one operation each. -/

namespace Sys2Proof.Proofs
open Sys2Proof.Machine

/-! ## Blanking the sinks before an operation

Blanking does not commute with an operation that writes a sink, so both sides are blanked once more
after it. An operation without a branch agrees by computation: it writes its own pieces and reads no
sink but to fill another. What remains is each operation with a branch, whose test is the same on both
sides. -/

/-- What `f` leaves outside the sinks does not depend on them. -/
def IgnoresSinks (f : State → State) : Prop :=
  ∀ s, (f s.withoutSinks).withoutSinks = (f s).withoutSinks

/-- Operations that ignore the sinks may be done in a row: what the first leaves in the sinks is again
ignored. -/
theorem IgnoresSinks.comp {f g : State → State} (hg : IgnoresSinks g) (hf : IgnoresSinks f) :
    IgnoresSinks fun s => g (f s) := fun s =>
  calc (g (f s.withoutSinks)).withoutSinks
    _ = (g (f s.withoutSinks).withoutSinks).withoutSinks := (hg _).symm
    _ = (g (f s).withoutSinks).withoutSinks := by rw [hf s]
    _ = (g (f s)).withoutSinks := hg _

theorem withoutSinks_ite (c : Prop) [Decidable c] (t u : State) :
    (if c then t else u).withoutSinks = if c then t.withoutSinks else u.withoutSinks :=
  apply_ite State.withoutSinks c t u

theorem timerTick_ignoresSinks : IgnoresSinks State.timerTick := by
  intro s
  unfold State.timerTick
  simp only [withoutSinks_ite]
  rfl

theorem sampled_ignoresSinks : IgnoresSinks State.sampled := by
  intro s
  unfold State.sampled
  simp only [withoutSinks_ite]
  rfl

theorem condBranch_ignoresSinks (c : Bool) (a : HalfAddr) : IgnoresSinks (·.condBranch c a) := by
  intro s
  cases c <;> rfl

theorem takeInterrupt_ignoresSinks : IgnoresSinks State.takeInterrupt := by
  intro s
  unfold State.takeInterrupt
  simp only [withoutSinks_ite]
  rfl

theorem wake_ignoresSinks : IgnoresSinks State.wake := fun _ => rfl

/-- No event of an agent reads a sink but to write one: the end of a sound looks at SND_MODE and
clears SND_ON. -/
theorem applyEvent_ignoresSinks (e : Event) : IgnoresSinks (·.applyEvent e) := by
  intro s
  dsimp only
  have tick := timerTick_ignoresSinks s
  cases e with
  | rtc | pins | resLow => rfl
  | soundEnd | writePB =>
    dsimp only [State.applyEvent]
    simp only [withoutSinks_ite]
    rfl
  | internalTick | tmclkRise =>
    rw [applyEvent_clockEdge s (by simp), applyEvent_clockEdge s.withoutSinks (by simp),
      withoutSinks_ite, withoutSinks_ite, tick]
    rfl

theorem applyEvents_ignoresSinks (es : List Event) : IgnoresSinks (·.applyEvents es) := by
  induction es with
  | nil => exact fun _ => rfl
  | cons e es ih => exact ih.comp (wake_ignoresSinks.comp (applyEvent_ignoresSinks e))

/-- Nothing that happens at an instruction boundary depends on a sink. -/
theorem boundary_ignoresSinks : IgnoresSinks State.boundary := by
  intro s
  match hs : s.schedule with
  | [] =>
    rw [boundary_of_no_event s hs, boundary_of_no_event s.withoutSinks hs]
    rfl
  | es :: rest =>
    rw [boundary_of_batch s hs, boundary_of_batch s.withoutSinks hs]
    exact applyEvents_ignoresSinks es (State.wake { s with schedule := rest })

theorem execCall_ignoresSinks (s : State) (a : CodeAddr) :
    mapNext State.withoutSinks (execCall a s.withoutSinks) =
      mapNext State.withoutSinks (execCall a s) := by
  unfold execCall
  rw [withoutSinks_sub]
  cases s.sub <;> rfl

/-- No instruction depends on a sink: by the operations its meaning is built from. -/
theorem exec_ignoresSinks (i : Instr) (s : State) :
    mapNext State.withoutSinks (exec i s.withoutSinks) =
      mapNext State.withoutSinks (exec i s) := by
  cases i with
  | call a => exact execCall_ignoresSinks s a
  | jc | jnc | ja0 | ja1 | ja2 | ja3 | jzA | jnzA | jnzR0 | jnzR1 | jnzR4 =>
    exact congrArg Host.Outcome.next (condBranch_ignoresSinks _ _ s)
  | jtmr a =>
    exact congrArg (fun t => Host.Outcome.next (t.setTf false)) (condBranch_ignoresSinks s.tf a s)
  | movATmrl | movATmrh =>
    exact congrArg (fun t => Host.Outcome.next (t.advance 1#12)) (sampled_ignoresSinks (s.setAcc _))
  | _ => rfl

/-- What an instruction answers, but for the sinks, depends on the state but for the sinks. -/
theorem exec_congr_withoutSinks (i : Instr) {s t : State} (h : s.withoutSinks = t.withoutSinks) :
    mapNext State.withoutSinks (exec i s) = mapNext State.withoutSinks (exec i t) := by
  rw [← exec_ignoresSinks i s, h, exec_ignoresSinks i t]

/-- Settles O58: the boundary comes out the same but for the sinks, the core then takes the same of
the three ways a step can go, and each of them comes out the same but for the sinks. -/
theorem sinksAreNeverReadBack : Obligations.SinksAreNeverReadBack := by
  intro s
  have hboundary : s.withoutSinks.boundary.withoutSinks = s.boundary.withoutSinks :=
    boundary_ignoresSinks s
  have hhalted : s.withoutSinks.boundary.halted = s.boundary.halted :=
    (congrArg State.halted hboundary :)
  have haccepted : s.withoutSinks.boundary.interruptAccepted = s.boundary.interruptAccepted :=
    (congrArg State.interruptAccepted hboundary :)
  have hfetch : s.withoutSinks.boundary.fetch = s.boundary.fetch :=
    (congrArg State.fetch hboundary :)
  unfold step
  rw [hhalted, haccepted, hfetch]
  split
  next => exact congrArg Host.Outcome.next hboundary
  next =>
    split
    next =>
      exact congrArg Host.Outcome.next (takeInterrupt_ignoresSinks.comp boundary_ignoresSinks s)
    next =>
      cases s.boundary.fetch with
      | ok i => exact exec_congr_withoutSinks i hboundary
      | error e => rfl

/-! ## The sound commands and HALT -/

@[simp] theorem exec_soundN (n : Nibble) (s : State) :
    exec (.soundN n) s = .next ((s.startSound n).advance 2#12) := rfl

@[simp] theorem exec_soundA (s : State) :
    exec .soundA s = .next ((s.startSound s.acc).advance 1#12) := rfl

@[simp] theorem exec_soundOne (s : State) :
    exec .soundOne s = .next ((s.setSoundMode .one).advance 1#12) := rfl

@[simp] theorem exec_soundLoop (s : State) :
    exec .soundLoop s = .next ((s.setSoundMode .loop).advance 1#12) := rfl

@[simp] theorem exec_soundOff (s : State) :
    exec .soundOff s = .next (s.stopSound.advance 1#12) := rfl

@[simp] theorem exec_halt (s : State) :
    exec .halt s = .next ((s.setHalted true).advance 2#12) := rfl

/-- BZ is held high without a sound and in HALT (R250, R284). -/
theorem bzHeldHigh_iff (s : State) :
    s.bzHeldHigh = true ↔ s.sndOn = false ∨ s.halted = true := by
  simp [State.bzHeldHigh]

/-- Settles O51: each command is one operation on the latches; SOUND n is opcode 5 of the forms
`F2I`. -/
theorem soundCommands : Obligations.SoundCommands := by
  intro s n
  exact ⟨⟨rfl, rfl⟩, ⟨rfl, rfl⟩, ⟨rfl, rfl⟩, ⟨rfl, rfl⟩, ⟨rfl, rfl⟩,
    fun _ hb2 => decode_imm_badSecondByte (op := 5#4) (by decide) hb2 [],
    completesWith_of_exec (exec_soundN n s) ⟨rfl, rfl, rfl, rfl⟩ (by simp [writes]),
    completesWith_of_exec (exec_soundA s) ⟨rfl, rfl, rfl, rfl⟩ (by simp [writes]),
    completesWith_of_exec (exec_soundOne s) ⟨rfl, rfl, rfl⟩ (by simp [writes]),
    completesWith_of_exec (exec_soundLoop s) ⟨rfl, rfl, rfl⟩ (by simp [writes]),
    completesWith_of_exec (exec_soundOff s) ⟨rfl, rfl, rfl, (bzHeldHigh_iff _).2 (.inl rfl)⟩
      (by simp [writes])⟩

/-- Settles O52: HALT is one operation, and BZ is held high by HALTED. -/
theorem haltStopsTheCore : Obligations.HaltStopsTheCore := by
  intro s
  exact ⟨⟨rfl, rfl⟩,
    completesWith_of_exec (exec_halt s) ⟨rfl, rfl, (bzHeldHigh_iff _).2 (.inr rfl)⟩
      (by simp [writes])⟩

end Sys2Proof.Proofs
end

section
/-! Interrupts and HALT (60_exceptions.md): the ways a step can go as equations, the interrupt entry and
its return, the stops of the machine, and the ends of HALT. -/

namespace Sys2Proof.Proofs
open Sys2Proof.Machine

/-! ## The ways a step can go -/

/-- A core that is in HALT after the boundary does nothing (R284). -/
theorem step_of_halted {s : State} (h : s.boundary.halted = true) : step s = .next s.boundary := by
  simp [step, h]

/-- An accepted interrupt is entered (R276); acceptance includes that the core runs. -/
theorem step_of_accepted {s : State} (h : s.boundary.interruptAccepted = true) :
    step s = .next s.boundary.takeInterrupt := by
  obtain ⟨hrun, -⟩ := (interruptAccepted_iff _).1 h
  simp [step, hrun, h]

/-- A running core that accepts no interrupt stops on bytes that are no instruction (R104, R105). -/
theorem step_of_fetch_error {s : State} {e : DecodeError} (hrun : s.boundary.halted = false)
    (hint : s.boundary.interruptAccepted = false) (hfetch : s.boundary.fetch = .error e) :
    step s = .fault .illegalOpcode := by
  cases e <;> simp [step, hrun, hint, hfetch, decodeFault]

/-- Settles O9: the wake-up check that ends the boundary leaves no halted core a request. -/
theorem haltedCoreDoesNothing : Obligations.HaltedCoreDoesNothing := by
  intro s h
  refine ⟨step_of_halted h, Bool.eq_false_iff.2 fun hrtcf => ?_⟩
  rw [boundary_runs_of_rtcf hrtcf] at h
  cases h

/-! ## Interrupt entry and return -/

/-- The latch that an accepted interrupt serves: the RTC's first (R278). -/
def servedLatch (s : State) : Field := if s.rtcf then .rtcf else .tf

/-- The interrupt entry changes the stack register, SUB, the counter and the latch it serves (R277). -/
theorem takeInterrupt_changesOnly (s : State) :
    ChangesOnly [.stackPc, .stackCf, .sub, .pc, servedLatch s] s s.takeInterrupt := by
  intro f hf
  cases f with
  | stackPc | stackCf | sub | pc => simp at hf
  | rtcf =>
    have hrtcf : s.rtcf = false := by
      cases h : s.rtcf with
      | false => rfl
      | true => simp [servedLatch, h] at hf
    exact (takeInterrupt_rtcf s).trans hrtcf.symm
  | tf =>
    have hrtcf : s.rtcf = true := by
      cases h : s.rtcf with
      | true => rfl
      | false => simp [servedLatch, h] at hf
    exact (takeInterrupt_tf s).trans (by rw [hrtcf, Bool.true_and])
  | _ => unfold State.takeInterrupt; split <;> rfl

/-- The entry by the RTC (R277, R278). -/
theorem takeInterrupt_of_rtcf {s : State} (h : s.rtcf = true) :
    s.takeInterrupt.pc = 0x008#12 ∧ s.takeInterrupt.tf = s.tf := by
  rw [takeInterrupt_pc, takeInterrupt_tf, h]
  exact ⟨rfl, Bool.true_and _⟩

/-- The entry by the timer (R277). -/
theorem takeInterrupt_of_not_rtcf {s : State} (h : s.rtcf = false) :
    s.takeInterrupt.pc = 0x004#12 ∧ s.takeInterrupt.tf = false := by
  rw [takeInterrupt_pc, takeInterrupt_tf, h]
  exact ⟨rfl, Bool.false_and _⟩

/-- Settles O7: the hypotheses are the condition of R275, and the entry address is by the RTC latch. -/
theorem interruptEntryEffect : Obligations.InterruptEntryEffect := by
  intro s hrun hie hsub hreq
  have haccepted := (interruptAccepted_iff _).2 ⟨hrun, hie, hsub, hreq⟩
  refine ⟨_, step_of_accepted haccepted, takeInterrupt_stackPc _, takeInterrupt_stackCf _,
    takeInterrupt_sub _, takeInterrupt_rtcf _, ?_,
    changesOnly_mono (takeInterrupt_changesOnly _) ?_⟩
  · split
    next h => exact takeInterrupt_of_rtcf h
    next h => exact takeInterrupt_of_not_rtcf (Bool.eq_false_iff.2 h)
  · unfold servedLatch
    split <;> decide

/-- Settles O43: RETI puts back the counter and the carry that the entry saved, and SUB was none. -/
theorem interruptsResumeExactly : Obligations.InterruptsResumeExactly := by
  intro s haccepted
  obtain ⟨-, -, hsub, -⟩ := (interruptAccepted_iff s).1 haccepted
  refine ⟨_, exec_reti _, fun f hf => ?_⟩
  by_cases hreti : f ∈ [.pc, .cf, .sub]
  · have hrestored : f = .pc ∨ f = .cf ∨ f = .sub := by simpa using hreti
    rcases hrestored with rfl | rfl | rfl
    · exact takeInterrupt_stackPc s
    · exact takeInterrupt_stackCf s
    · exact hsub.symm
  · have hentry : f ∉ [.stackPc, .stackCf, .sub, .pc, servedLatch s] := by
      simp only [List.mem_cons, not_or] at hf hreti ⊢
      obtain ⟨hstackPc, hstackCf, hlatch, hnil⟩ := hf
      obtain ⟨hpc, -, hsub, -⟩ := hreti
      exact ⟨hstackPc, hstackCf, hsub, hpc, hlatch, hnil⟩
    have hframe := changesOnly_append (takeInterrupt_changesOnly s) (returnInt_changesOnly _)
    exact hframe f (mt List.mem_append.1 (not_or.2 ⟨hreti, hentry⟩))

/-! ## Requests -/

/-- Settles O8: the boundary keeps both requests; after it the interrupt entry clears the latch it
serves, and of the instructions only JTMR clears TF. -/
theorem requestsAreHeldUntilServed : Obligations.RequestsAreHeldUntilServed := by
  intro s t h hno
  have hrtcf (hset : s.rtcf = true) : s.boundary.rtcf = true := (boundary_rtcf_iff hno).2 (.inl hset)
  have htf (hset : s.tf = true) : s.boundary.tf = true := boundary_tf hno hset
  rcases step_cases h with ⟨-, rfl⟩ | ⟨-, haccepted, rfl⟩ | ⟨hrun, hint, i, hfetch, hexec⟩
  · exact ⟨fun hset => .inl (hrtcf hset), fun hset => .inl (htf hset)⟩
  · have hsub := takeInterrupt_sub s.boundary
    refine ⟨fun hset => .inr ⟨haccepted, hsub, (takeInterrupt_of_rtcf (hrtcf hset)).1⟩,
      fun hset => ?_⟩
    cases hlatch : s.boundary.rtcf with
    | true => exact .inl ((takeInterrupt_of_rtcf hlatch).2.trans (htf hset))
    | false => exact .inr (.inl ⟨haccepted, hsub, (takeInterrupt_of_not_rtcf hlatch).1⟩)
  · obtain ⟨hkeepsTf, -, -, hkeepsRtcf, -⟩ := controlStateWriters i s.boundary t hexec
    refine ⟨fun hset => .inl (hkeepsRtcf.trans (hrtcf hset)), fun hset => ?_⟩
    by_cases hjtmr : ∃ a, i = .jtmr a
    · obtain ⟨a, rfl⟩ := hjtmr
      exact .inr (.inr ⟨hrun, hint, a, hfetch⟩)
    · exact .inl ((hkeepsTf (not_exists.1 hjtmr)).trans (htf hset))

/-! ## The stops of the machine -/

/-- Every instruction completes but CALL in an interrupt routine (R211, R261). -/
theorem exec_cases (i : Instr) (s : State) :
    (∃ t, exec i s = .next t) ∨
      (∃ a, i = .call a) ∧ s.sub = .isr ∧ exec i s = .fault .callInIsr := by
  cases i with
  | call a =>
    by_cases hsub : s.sub = .isr
    · exact .inr ⟨⟨a, rfl⟩, hsub, exec_call_of_isr hsub a⟩
    · exact .inl ⟨_, exec_call_of_not_isr hsub a⟩
  | _ => exact .inl ⟨_, rfl⟩

/-- The first byte that the check of R104 refuses. -/
theorem firstByteAssigned_eq_false_iff (b1 : Byte) :
    firstByteAssigned b1 = false ↔ b1 = 0x35#8 := by
  simp [firstByteAssigned]

/-- The bytes that the check of R105 (b) refuses. -/
theorem haltBytesMatch_eq_false_iff (b1 b2 : Byte) :
    haltBytesMatch b1 b2 = false ↔ b1 = 0x37#8 ∧ b2 ≠ 0x3E#8 := by
  simp [haltBytesMatch]

/-- The bytes that the check of R105 (a) refuses. -/
theorem immediateByteMatches_eq_false_iff (b1 b2 : Byte) :
    immediateByteMatches b1 b2 = false ↔ ConstrainedHead b1 ∧ 0x10 ≤ b2.toNat := by
  simp only [immediateByteMatches, ConstrainedHead, Bool.or_eq_false_iff, Bool.not_eq_false',
    Bool.or_eq_true, Bool.and_eq_true, decide_eq_true_eq, decide_eq_false_iff_not, not_lt]

/-- The check of the code bytes refuses 35H and the bad second bytes (R104, R105). -/
theorem codeWellFormed_eq_false_iff (b1 b2 : Byte) :
    codeWellFormed b1 b2 = false ↔ b1 = 0x35#8 ∨ BadSecondByte b1 b2 := by
  rw [codeWellFormed, Bool.and_eq_false_iff, Bool.and_eq_false_iff, firstByteAssigned_eq_false_iff,
    haltBytesMatch_eq_false_iff, immediateByteMatches_eq_false_iff, BadSecondByte, or_assoc]

/-- The fetch fails exactly on the bytes that R104 and R105 exclude. -/
theorem fetch_error_iff (s : State) :
    (∃ e, s.fetch = .error e) ↔
      codeWellFormed (s.romRead s.pc) (s.romRead (s.pc + 1#12)) = false := by
  rw [codeWellFormed_eq_false_iff]
  have hbytes : s.fetchBytes = [s.romRead s.pc, s.romRead (s.pc + 1#12)] := rfl
  unfold State.fetch
  rw [hbytes]
  rcases decode_pair_cases (s.romRead s.pc) (s.romRead (s.pc + 1#12)) [] with
    ⟨h35, -, hdec⟩ | ⟨-, hbad, hdec⟩ | ⟨h35, hgood, ⟨i, rest⟩, hdec⟩
  all_goals rw [hdec]
  · exact iff_of_true ⟨_, rfl⟩ (.inl h35)
  · exact iff_of_true ⟨_, rfl⟩ (.inr hbad)
  · exact iff_of_false nofun (not_or.2 ⟨h35, hgood⟩)

/-- The bytes at the counter are those that the fetched instruction encodes. -/
theorem encode_of_fetch {s : State} {i : Instr} (h : s.fetch = .ok i) :
    ∃ rest, s.fetchBytes = encode i ++ rest := by
  unfold State.fetch at h
  split at h
  next j rest hdec =>
    cases h
    exact ⟨rest, decodedBytesAreTheEncoding _ _ _ hdec⟩
  next => cases h

/-- A CALL is fetched exactly from a first byte F0H..FFH (R103). -/
theorem fetch_call_iff (s : State) :
    (∃ a, s.fetch = .ok (.call a)) ↔ 0xF0 ≤ (s.romRead s.pc).toNat := by
  constructor
  · rintro ⟨a, h⟩
    obtain ⟨rest, hbytes⟩ := encode_of_fetch h
    have hhead : s.romRead s.pc = 0xF#4 ++ a.extractLsb' 8 4 := (List.cons.inj hbytes).1
    rw [hhead, toNat_append_nibbles]
    exact Nat.le_add_right _ _
  · intro h
    have hlt := (s.romRead s.pc).isLt
    have hhead := eq_append_low (b := s.romRead s.pc) (n := 0xF#4) (by simp; omega)
    have hdec := decode_call ((s.romRead s.pc).extractLsb' 0 4) (s.romRead (s.pc + 1#12)) []
    rw [← hhead] at hdec
    exact ⟨_, fetch_of_decode hdec⟩

/-- The four ways a step can go, each with its answer. -/
theorem step_ways (s : State) :
    (s.boundary.halted = true ∧ step s = .next s.boundary) ∨
    (s.boundary.interruptAccepted = true ∧ step s = .next s.boundary.takeInterrupt) ∨
    (s.boundary.halted = false ∧ s.boundary.interruptAccepted = false ∧
      (∃ e, s.boundary.fetch = .error e) ∧ step s = .fault .illegalOpcode) ∨
    (s.boundary.halted = false ∧ s.boundary.interruptAccepted = false ∧
      ∃ i, s.boundary.fetch = .ok i ∧ step s = exec i s.boundary) := by
  cases hrun : s.boundary.halted with
  | true => exact .inl ⟨rfl, step_of_halted hrun⟩
  | false =>
    cases hint : s.boundary.interruptAccepted with
    | true => exact .inr (.inl ⟨rfl, step_of_accepted hint⟩)
    | false =>
      cases hfetch : s.boundary.fetch with
      | error e => exact .inr (.inr (.inl ⟨rfl, rfl, ⟨e, rfl⟩, step_of_fetch_error hrun hint hfetch⟩))
      | ok i => exact .inr (.inr (.inr ⟨rfl, rfl, i, rfl, step_of_fetch hrun hint hfetch⟩))

/-- The machine refuses nothing: every instruction has a meaning. -/
theorem step_ne_refused (s : State) (r : Refusal) : step s ≠ .refused r := by
  rcases step_ways s with ⟨-, h⟩ | ⟨-, h⟩ | ⟨-, -, -, h⟩ | ⟨-, -, i, -, h⟩
  all_goals rw [h]
  iterate 3 exact nofun
  rcases exec_cases i s.boundary with ⟨t, hexec⟩ | ⟨-, -, hexec⟩ <;> rw [hexec] <;> exact nofun

/-- The stop on bytes that are no instruction comes from the fetch alone. -/
theorem step_illegalOpcode_iff (s : State) :
    step s = .fault .illegalOpcode ↔
      s.boundary.halted = false ∧ s.boundary.interruptAccepted = false ∧
        ∃ e, s.boundary.fetch = .error e := by
  rcases step_ways s with ⟨hhalt, h⟩ | ⟨hint, h⟩ | ⟨hrun, hint, hfetch, h⟩ | ⟨-, -, i, hfetch, h⟩
  all_goals rw [h]
  · exact iff_of_false nofun (by simp [hhalt])
  · exact iff_of_false nofun (by simp [hint])
  · exact iff_of_true rfl ⟨hrun, hint, hfetch⟩
  · have hne : exec i s.boundary ≠ .fault .illegalOpcode := by
      rcases exec_cases i s.boundary with ⟨t, hexec⟩ | ⟨-, -, hexec⟩ <;> rw [hexec] <;> exact nofun
    exact iff_of_false hne (by simp [hfetch])

/-- The stop on a CALL needs SUB = isr, under which no interrupt is accepted. -/
theorem step_callInIsr_iff (s : State) :
    step s = .fault .callInIsr ↔
      s.boundary.halted = false ∧ s.boundary.sub = .isr ∧ ∃ a, s.boundary.fetch = .ok (.call a) := by
  rcases step_ways s with
    ⟨hhalt, h⟩ | ⟨hint, h⟩ | ⟨-, -, ⟨e, hfetch⟩, h⟩ | ⟨hrun, -, i, hfetch, h⟩
  all_goals rw [h]
  · exact iff_of_false nofun (by simp [hhalt])
  · obtain ⟨-, -, hsub, -⟩ := (interruptAccepted_iff _).1 hint
    exact iff_of_false nofun (by simp [hsub])
  · exact iff_of_false nofun (by simp [hfetch])
  · rcases exec_cases i s.boundary with ⟨t, hexec⟩ | ⟨⟨a, rfl⟩, hsub, hexec⟩
    · rw [hexec]
      refine iff_of_false nofun ?_
      rintro ⟨-, hsub, a, hcall⟩
      rw [hfetch] at hcall
      cases hcall
      rw [exec_call_of_isr hsub] at hexec
      cases hexec
    · exact iff_of_true hexec ⟨hrun, hsub, a, hfetch⟩

/-- Settles O10, from the conditions of the two stops and the bytes that meet them. -/
theorem stepStopsOnlyAsListed : Obligations.StepStopsOnlyAsListed := by
  intro s
  refine ⟨step_ne_refused s, ?_, ?_⟩
  · rw [step_illegalOpcode_iff, fetch_error_iff]
  · rw [step_callInIsr_iff, fetch_call_iff]

/-! ## The ends of HALT: the RTC -/

/-- `s` running, with an RTC request. -/
def awakened (s : State) : State := { s with halted := false, rtcf := true }

/-- The wake-up check under an RTC request (R286). -/
theorem wake_of_rtcf {s : State} (h : s.rtcf = true) : s.wake = awakened s := by
  cases s
  simp_all [State.wake, State.setHalted, awakened]

/-- An RTC event with its wake-up check (R286). -/
theorem wake_applyEvent_rtc (s : State) : (s.applyEvent .rtc).wake = awakened s :=
  wake_of_rtcf rfl

/-- Further RTC events find the core awake and the request made. -/
theorem applyEvents_awakened {es : List Event} (hall : ∀ e ∈ es, e = .rtc) (s : State) :
    (awakened s).applyEvents es = awakened s := by
  induction es with
  | nil => rfl
  | cons e es ih =>
    rw [applyEvents_cons, hall e List.mem_cons_self, wake_applyEvent_rtc]
    exact ih fun f hf => hall f (List.mem_cons_of_mem e hf)

/-- A batch of RTC events alone, if it or the latch makes a request, wakes the core and does nothing
else. -/
theorem wake_applyEvents_of_only_rtc {s : State} {es : List Event} (hall : ∀ e ∈ es, e = .rtc)
    (hreq : s.rtcf = true ∨ .rtc ∈ es) : s.wake.applyEvents es = awakened s := by
  rcases hreq with hlatch | hevent
  · rw [wake_of_rtcf hlatch, applyEvents_awakened hall]
  · obtain ⟨e, es, rfl⟩ := List.exists_cons_of_ne_nil (List.ne_nil_of_mem hevent)
    rw [applyEvents_cons, hall e List.mem_cons_self, wake_applyEvent_rtc]
    exact applyEvents_awakened (fun f hf => hall f (List.mem_cons_of_mem e hf)) s

/-- The boundary that such a batch makes, or the latch alone. -/
theorem boundary_of_only_rtc {s : State}
    (hall : ∀ es, s.schedule.head? = some es → ∀ e ∈ es, e = .rtc)
    (hreq : s.rtcf = true ∨ ∃ es, s.schedule.head? = some es ∧ .rtc ∈ es) :
    s.boundary = awakened { s with schedule := s.schedule.tail } := by
  match hs : s.schedule with
  | [] =>
    have hlatch : s.rtcf = true := by simpa [hs] using hreq
    rw [boundary_of_no_event s hs, wake_of_rtcf hlatch, List.tail_nil, ← hs]
  | es :: rest =>
    have hbatch : s.rtcf = true ∨ .rtc ∈ es := by simpa [hs] using hreq
    rw [boundary_of_batch s hs]
    exact wake_applyEvents_of_only_rtc (s := { s with schedule := rest })
      (hall es (by rw [hs]; rfl)) hbatch

/-- Settles O53: the request is made and wakes the core, the boundary leaves pc, CF, IE and SUB alone,
and by the latter two the step is the entry or the instruction. -/
theorem rtcEndsHalt : Obligations.RtcEndsHalt := by
  intro s _ hno hreq
  have hrtcf := (boundary_rtcf_iff hno).2 hreq
  have hrun := boundary_runs_of_rtcf hrtcf
  have hframe := boundary_changesOnly hno
  have hpc : s.boundary.pc = s.pc := hframe .pc (by decide)
  have hcf : s.boundary.cf = s.cf := hframe .cf (by decide)
  have hie : s.boundary.ie = s.ie := hframe .ie (by decide)
  have hsub : s.boundary.sub = s.sub := hframe .sub (by decide)
  refine ⟨hrun, hrtcf, hpc, fun hset hnone => ?_, fun h i hfetch => ?_,
    fun hall => boundary_of_only_rtc hall hreq⟩
  · have haccepted := (interruptAccepted_iff _).2
      ⟨hrun, hie.trans hset, hsub.trans hnone, .inl hrtcf⟩
    have hentry := takeInterrupt_changesOnly s.boundary
    rw [servedLatch, hrtcf] at hentry
    exact ⟨_, step_of_accepted haccepted, (takeInterrupt_halted _).trans hrun,
      (takeInterrupt_stackPc _).trans hpc, (takeInterrupt_stackCf _).trans hcf,
      takeInterrupt_sub _, (takeInterrupt_of_rtcf hrtcf).1, takeInterrupt_rtcf _, hentry⟩
  · rw [← hie, ← hsub] at h
    exact step_of_fetch hrun (interruptAccepted_eq_false h) hfetch

/-! ## The ends of HALT: the pins -/

/-- When a wake-enabled pin falls (R287). -/
theorem wakePinFalls_iff (s : State) (p : Pins) :
    s.wakePinFalls p = true ↔
      ∃ i, i < 7 ∧ s.cfg.wakeEn.getLsbD i = true ∧ s.pinLevel s.draws i = true ∧
        (s.changePins p).pinLevel (s.changePins p).draws i = false := by
  have hafter : (s.changePins p).pinLevel (s.changePins p).draws =
      State.pinLevel { s with pins := p } (s.draws + 1) := rfl
  simp [State.wakePinFalls, hafter, and_assoc]

/-- Settles O54: a change of the pins ends HALT exactly by the fall of a wake-enabled pin. -/
theorem pinFallsEndHalt : Obligations.PinFallsEndHalt := by
  intro s p
  have hhalted : (s.applyEvent (.pins p)).halted = false ↔
      s.halted = false ∨ s.wakePinFalls p = true := by
    show (s.halted && !s.wakePinFalls p) = false ↔ _
    rw [Bool.and_eq_false_iff, Bool.not_eq_false']
  rw [hhalted, wakePinFalls_iff]
  exact ⟨Iff.rfl, rfl, changePins_changesOnly s p⟩

/-! ## What does not end HALT -/

/-- In HALT a tick, the end of a sound or the bank latch does nothing, but for an edge that counts
there. -/
theorem applyEvent_quietInHalt {s : State} (hhalt : s.halted = true) {e : Event}
    (he : e.quietInHalt = true) :
    s.applyEvent e = if edgeCounts s e then s.timerTick else s := by
  cases e with
  | internalTick => exact applyEvent_clockEdge s (.inl rfl)
  | tmclkRise => exact applyEvent_clockEdge s (.inr rfl)
  | soundEnd => exact (applyEvent_frozen s 0#2 hhalt).1
  | writePB v => exact (applyEvent_frozen s v hhalt).2
  | rtc | pins | resLow => cases he

/-- Such a batch, without a request, does nothing but tick the counter once for each edge that
counts. -/
theorem applyEvents_quietInHalt {es : List Event} (hquiet : ∀ e ∈ es, e.quietInHalt = true) :
    ∀ s : State, s.halted = true → s.rtcf = false →
      s.applyEvents es = s.timerTicks (es.countP (edgeCounts s)) := by
  induction es with
  | nil => exact fun _ _ _ => rfl
  | cons e es ih =>
    intro s hhalt hrtcf
    have hrest := ih fun f hf => hquiet f (List.mem_cons_of_mem e hf)
    rw [applyEvents_cons, applyEvent_quietInHalt hhalt (hquiet e List.mem_cons_self),
      List.countP_cons]
    cases edgeCounts s e with
    | true =>
      rw [if_pos rfl, if_pos rfl, timerTicks_succ, ← edgeCounts_timerTick s,
        wake_of_no_request ((timerTick_rtcf s).trans hrtcf)]
      exact hrest s.timerTick ((timerTick_halted s).trans hhalt) ((timerTick_rtcf s).trans hrtcf)
    | false =>
      rw [if_neg Bool.false_ne_true, if_neg Bool.false_ne_true, wake_of_no_request hrtcf]
      exact hrest s hhalt hrtcf

/-- Settles O55: the boundary is the ticks that count, and the core halted after it is idle. -/
theorem ticksDoNotEndHalt : Obligations.TicksDoNotEndHalt := by
  intro s es rest hhalt hrtcf hs hquiet
  have hboundary : s.boundary =
      State.timerTicks { s with schedule := rest } (es.countP (edgeCounts s)) := by
    rw [boundary_of_batch s hs, wake_of_no_request (s := { s with schedule := rest }) hrtcf]
    exact applyEvents_quietInHalt hquiet { s with schedule := rest } hhalt hrtcf
  have hticks := timerTicks_changesOnly { s with schedule := rest } (es.countP (edgeCounts s))
  rw [← hboundary] at hticks
  obtain ⟨-, htmr, htf⟩ := timerTicks_congr (es.countP (edgeCounts s))
    (s := { s with schedule := rest }) (t := s) ⟨rfl, rfl, rfl⟩
  rw [← hboundary] at htmr htf
  have hhalted : s.boundary.halted = true := (hticks .halted (by decide)).trans hhalt
  refine ⟨_, step_of_halted hhalted, hhalted, hticks .pc (by decide), hticks .schedule (by decide),
    changesOnly_append (setSchedule_changesOnly s rest) hticks, fun hfrozen => ?_,
    fun hsrc hcounts => ?_⟩
  · have hnone : es.countP (edgeCounts s) = 0 :=
      List.countP_eq_zero.2 fun e _ => Bool.eq_false_iff.1 (edgeCounts_of_frozen hhalt hfrozen e)
    rw [htmr, htf, hnone]
    exact ⟨rfl, rfl⟩
  · rw [edgeCounts_of_external hsrc (.inr hcounts)] at htmr htf
    exact ⟨htmr, htf⟩

/-! ## Clock events on a running core -/

/-- The events of the two clocks and of the RTC (R269, R274). -/
def IsClockEvent (e : Event) : Prop := e = .internalTick ∨ e = .tmclkRise ∨ e = .rtc

/-- On a running core a batch of clock events leaves the counter and TF as one tick for each edge that
counts does. -/
theorem applyEvents_counter {es : List Event} (hclock : ∀ e ∈ es, IsClockEvent e) :
    ∀ s : State, s.halted = false →
      (s.applyEvents es).tmr = (s.timerTicks (es.countP (edgeCounts s))).tmr ∧
        (s.applyEvents es).tf = (s.timerTicks (es.countP (edgeCounts s))).tf := by
  induction es with
  | nil => exact fun _ _ => ⟨rfl, rfl⟩
  | cons e es ih =>
    intro s hrun
    have hrest := ih fun f hf => hclock f (List.mem_cons_of_mem e hf)
    rw [applyEvents_cons, List.countP_cons]
    rcases or_assoc.2 (hclock e List.mem_cons_self) with hedge | rfl
    · rw [applyEvent_clockEdge s hedge]
      cases edgeCounts s e with
      | true =>
        have hrun' : s.timerTick.halted = false := (timerTick_halted s).trans hrun
        rw [if_pos rfl, if_pos rfl, timerTicks_succ, ← edgeCounts_timerTick s,
          wake_of_running _ hrun']
        exact hrest s.timerTick hrun'
      | false =>
        rw [if_neg Bool.false_ne_true, if_neg Bool.false_ne_true, wake_of_running _ hrun]
        exact hrest s hrun
    · obtain ⟨htmrRest, htfRest⟩ := hrest (s.applyEvent .rtc) hrun
      obtain ⟨-, htmr, htf⟩ := timerTicks_congr (es.countP (edgeCounts s))
        (s := s.applyEvent .rtc) (t := s) ⟨rfl, rfl, rfl⟩
      rw [wake_of_running (s.applyEvent .rtc) hrun]
      exact ⟨htmrRest.trans htmr, htfRest.trans htf⟩

/-- What a batch of clock events may change on a running core. -/
theorem applyEvents_clock_changesOnly {es : List Event} (hclock : ∀ e ∈ es, IsClockEvent e)
    {s : State} (hrun : s.halted = false) :
    ChangesOnly [.tmr, .tf, .rtcf] s (s.applyEvents es) := by
  refine (applyEvents_induction_of_mem
    (P := fun t => t.halted = false ∧ ChangesOnly [.tmr, .tf, .rtcf] s t) ?_ ?_ s
    ⟨hrun, changesOnly_refl _ s⟩).2
  · rintro t ⟨hrunning, hframe⟩
    rw [wake_of_running t hrunning]
    exact ⟨hrunning, hframe⟩
  · rintro t e he ⟨hrunning, hframe⟩
    have hevent : ChangesOnly [.tmr, .tf, .rtcf] t (t.applyEvent e) := by
      rcases hclock e he with rfl | rfl | rfl <;>
        exact changesOnly_mono (applyEvent_changesOnly t nofun) (by decide)
    exact ⟨(hevent .halted (by decide)).trans hrunning, changesOnly_trans hframe hevent⟩

/-- Settles O60, by the counter, the RTC latch and the frame of the batch; which edges count is by the
clock source. -/
theorem clockEventsReachTheCounter : Obligations.ClockEventsReachTheCounter := by
  intro s es rest hrun hs hclock
  have hno : Event.resLow ∉ es := fun hmem => by
    rcases hclock _ hmem with h | h | h <;> cases h
  have hboundary : s.boundary = State.applyEvents { s with schedule := rest } es := by
    rw [boundary_of_batch s hs, wake_of_running { s with schedule := rest } hrun]
  have hframe := applyEvents_clock_changesOnly (s := { s with schedule := rest }) hclock hrun
  have hrtcf := applyEvents_rtcf_iff hno { s with schedule := rest }
  obtain ⟨htmr, htf⟩ := applyEvents_counter hclock { s with schedule := rest } hrun
  obtain ⟨-, htmrTicks, htfTicks⟩ := timerTicks_congr (es.countP (edgeCounts s))
    (s := { s with schedule := rest }) (t := s) ⟨rfl, rfl, rfl⟩
  have hcount : s.boundary.tmr = (s.timerTicks (es.countP (edgeCounts s))).tmr ∧
      s.boundary.tf = (s.timerTicks (es.countP (edgeCounts s))).tf := by
    rw [hboundary]
    exact ⟨htmr.trans htmrTicks, htf.trans htfTicks⟩
  rw [← hboundary] at hframe hrtcf
  refine ⟨fun n hsrc => ?_, fun hsrc => ?_, hrtcf, hframe .schedule (by decide),
    changesOnly_append (setSchedule_changesOnly s rest) hframe⟩
  · rwa [edgeCounts_of_internal hsrc hrun] at hcount
  · rwa [edgeCounts_of_external hsrc (.inl hrun)] at hcount

end Sys2Proof.Proofs
end

section
/-! Reset (70_reset_and_hazards.md): the reset table, once for the first reset and every RES pulse; the
canonical memories of the first; and the cycles of R317. -/

namespace Sys2Proof.Proofs
open Sys2Proof.Machine

/-- A memory that lists nothing is canonical. -/
theorem memory_nil_wf {α : Type} (size : Nat) : Memory.wf size ([] : Memory α) :=
  ⟨List.Pairwise.nil, List.forall_mem_nil _⟩

/-- Settles O12: both memories list nothing after reset. -/
theorem resetStateIsCanonical : Obligations.ResetStateIsCanonical := by
  obtain ⟨hram, hrom⟩ := reset_memories_listed_nothing
  unfold Obligations.ResetStateIsCanonical State.wf
  rw [hram, hrom]
  exact ⟨memory_nil_wf ramSize, memory_nil_wf romSize⟩

/-- The state after reset is its own state after a RES pulse with the values it names (log 1, log 2). -/
theorem reset_eq_afterReset : State.reset = State.reset.afterReset Unspecified.zero 0 := rfl

/-- PORTC after reset, bit by bit (R301): the display switch is the complement of `LCD_ON_LEVEL`, and
bit 0 is left open. -/
theorem portcReset_bits (level b : Bool) :
    (0b11#2 ++ BitVec.ofBool (!level) ++ BitVec.ofBool b : Nibble).getLsbD 3 = true ∧
      (0b11#2 ++ BitVec.ofBool (!level) ++ BitVec.ofBool b : Nibble).getLsbD 2 = true ∧
      (0b11#2 ++ BitVec.ofBool (!level) ++ BitVec.ofBool b : Nibble).getLsbD 1 = !level := by
  revert level b; decide

/-- The display is off after reset (R301). -/
theorem afterReset_lcdOn (s : State) (u : Unspecified) (e : Nat) :
    (s.afterReset u e).lcdOn = false := by
  obtain ⟨-, -, hbit⟩ := portcReset_bits s.cfg.lcdOnLevel u.portc0
  have hswitch : (s.afterReset u e).portc.getLsbD 1 = !s.cfg.lcdOnLevel := hbit
  rw [State.lcdOn, hswitch]
  exact Bool.not_beq_self _

/-- A latch bit of 1 does not drive its pin low (R190). -/
theorem outLevel_true_ne_low (openDrain : Bool) : outLevel true openDrain ≠ .low := by
  cases openDrain <;> decide

/-- No pin of port A is driven low after reset (R303): all bits of its latch are 1. -/
theorem afterReset_pinPA (s : State) (u : Unspecified) (e : Nat) {i : Nat} (hi : i < 4) :
    (s.afterReset u e).pinPA i ≠ .low := by
  have hlatch : (0b1111#4 : Nibble).getLsbD i = true := by
    revert i; decide
  show outLevel (BitVec.getLsbD 0b1111#4 i) _ ≠ .low
  rw [hlatch]
  exact outLevel_true_ne_low _

/-- Settles O56: the first reset is a RES pulse, and a RES event one with free values. -/
theorem resetTableHolds : Obligations.ResetTableHolds := by
  refine ⟨fun s u e t ht => ?_, fun s => ⟨_, _, rfl⟩⟩
  obtain ⟨s, u, e, rfl⟩ : ∃ (s : State) (u : Unspecified) (e : Nat), t = s.afterReset u e := by
    rcases ht with rfl | rfl
    · exact ⟨s, u, e, rfl⟩
    · exact ⟨_, _, _, reset_eq_afterReset⟩
  obtain ⟨hpc3, hpc2, -⟩ := portcReset_bits s.cfg.lcdOnLevel u.portc0
  exact ⟨rfl, rfl, rfl, rfl, rfl, rfl, rfl, rfl, rfl, hpc3, hpc2, afterReset_lcdOn s u e, rfl,
    fun _ hi => afterReset_pinPA s u e hi, rfl, rfl⟩

/-- Settles O59, by the instructions of two bytes, the four table reads and all others. -/
theorem instructionCycles : Obligations.InstructionCycles := by
  intro i
  cases i with
  | halt | addAImm | subAImm | andAImm | xorAImm | orAImm | soundN | movR4Imm | timerImm
  | movR1R0Imm | movR3R2Imm | ja0 | ja1 | ja2 | ja3 | jnzR0 | jnzR1 | jzA | jnzA | jc | jnc | jtmr
  | jnzR4 | jmp | call => exact ⟨.inr rfl, rfl⟩
  | readR4A | readMR0A | readfR4A | readfMR0A => exact ⟨.inl rfl, rfl⟩
  | _ => exact ⟨.inl rfl, rfl⟩

end Sys2Proof.Proofs
end
